-- ==== Sys2Proof/Word.lean ====
section
/-! DEFINITION. The parallel fields that cross the block's ports (spec/30_encoding.md R60, R61, R64).
Everything the pipeline computes is an unbounded natural number (spec/00_scope.md R14, R15), so the
only bit vectors of the model are the fields the spec gives a width. -/

namespace Sys2Proof

/-- A one-bit port or latch (R60: `rst`, `req_valid`, `rsp_ok`, `faulted`, ...). -/
abbrev Bit := BitVec 1

/-- `req_freq`, the timer frequency `F`: 32 bits, unsigned (R60, R62). -/
abbrev Freq := BitVec 32

/-- `req_key`, the key `K`: 16 bits, unsigned (R60, R62). -/
abbrev Key := BitVec 16

/-- The 48-bit request word `q` (R61). -/
abbrev ReqWord := BitVec 48

/-- A cause code as `rsp_cause` and `fault_cause` carry it: 2 bits (R60, R121). -/
abbrev CauseCode := BitVec 2

/-- The 4-bit field that holds the table's index (spec/20_memory.md R41). -/
abbrev TableIndex := BitVec 4

end Sys2Proof
end

