-- ==== Sys2Proof/Config.lean ====
section
/-! DEFINITION. What an instance of the block fixes when it is built (spec/00_scope.md R9), and the free
values: what the spec leaves unspecified while the machine goes on. -/

namespace Sys2Proof

/-- The result contract of an instance (spec/00_scope.md R4, spec/10_state.md R21). -/
inductive Variant where
  /-- Narrow output, the result absent on an error. -/
  | fallible
  /-- Wide output, an error is fatal until reset. -/
  | assertive
deriving DecidableEq, Repr, Inhabited

/-- The configuration record of spec/00_scope.md R9, one field per parameter. It is fixed when the block
is built and neither a request nor a reset changes it (spec/10_state.md R21, R24 to R26, R31). The
widths of the inputs and the largest key, which the source fixes, are the constants below. -/
structure Config where
  /-- `VARIANT` (R21). -/
  variant : Variant
  /-- `W`, the working width of the product `F * SCALE` (R9, R83). -/
  workW : Nat
  /-- `OUT_W`, the width of the period output (R9, R87). -/
  outW : Nat
  /-- `SCALE` (R24). -/
  scale : Nat
  /-- `EXP_FRAC`, the constant table, entry 0 first (R25). -/
  expFrac : List Nat
  /-- `BASE_FX` (R26). -/
  baseFx : Nat
  /-- `BASE_SHIFT` (R26). -/
  baseShift : Nat
  /-- `LATENCY`, in cycles (R9, spec/30_encoding.md R65). -/
  latency : Nat
deriving DecidableEq, Repr, Inhabited

/-- `KEY_MAX`, fixed by the source (spec/00_scope.md R9, spec/40_period_for_key.md R81). -/
def keyMax : Nat := 127

/-- The number of semitones in an octave, and of entries in the table (spec/40_period_for_key.md R82). -/
def semitones : Nat := 12

/-- Free value: what `rsp_ok` shows while `rsp_valid = 0` (spec/70_reset_and_hazards.md R141;
spec/93_implementation_defined.md row 14). DESIGN CHOICE, log entry 6. -/
opaque Config.freeRspOk : Nat → Bit

/-- Free value: what `rsp_cause` shows while `rsp_valid = 0` (R141). DESIGN CHOICE, log entry 6. -/
opaque Config.freeRspCause : Nat → CauseCode

/-- Free value: what `rsp_period` shows while `rsp_valid = 0` (R141), before it is cut to the
port's `OUT_W` bits. DESIGN CHOICE, log entry 6. -/
opaque Config.freeRspPeriod : Nat → Nat

/-- Free value: `FAULTED` between power-up and the first reset (spec/70_reset_and_hazards.md R142). Log
entry 13. -/
opaque Config.freeFaulted : Nat → Bit

/-- Free value: `FAULT_CAUSE` between power-up and the first reset (R142). DESIGN CHOICE, log entry 13. -/
opaque Config.freeFaultCause : Nat → CauseCode

end Sys2Proof
end

