-- ==== Sys2Proof/Syntax.lean ====
section
/-! DEFINITION. The two rows of spec/opcode_table.json, the response record, the ports of one clock cycle and
the events of the environment (spec/30_encoding.md, spec/60_exceptions.md, spec/40_period_for_key.md R92). -/

namespace Sys2Proof

/-- The instructions, one constructor per row of spec/opcode_table.json. Both rows take every 48-bit
request word: the instance's `VARIANT` decides which of the two a word is (spec/30_encoding.md R63). -/
inductive Instr where
  /-- Row `PERIOD_FOR_KEY.FALLIBLE` (spec/40_period_for_key.md R90). -/
  | periodForKeyFallible (f : Freq) (k : Key)
  /-- Row `PERIOD_FOR_KEY.ASSERTIVE` (spec/40_period_for_key.md R91). -/
  | periodForKeyAssertive (f : Freq) (k : Key)
deriving DecidableEq, Repr

/-- The operand `F` of a request (R62). -/
def Instr.freq : Instr → Freq
  | .periodForKeyFallible f _ => f
  | .periodForKeyAssertive f _ => f

/-- The operand `K` of a request (R62). -/
def Instr.key : Instr → Key
  | .periodForKeyFallible _ k => k
  | .periodForKeyAssertive _ k => k

/-- The contract whose row the instruction is (R63). -/
def Instr.variant : Instr → Variant
  | .periodForKeyFallible _ _ => .fallible
  | .periodForKeyAssertive _ _ => .assertive

/-- The error causes of spec/60_exceptions.md R121, code 0 (NONE) being the absence of one. -/
inductive Cause where
  /-- KEY_RANGE: the key is above 127. -/
  | keyRange
  /-- PRODUCT_OVERFLOW: `F * SCALE` does not fit the working width. -/
  | productOverflow
  /-- OUTPUT_OVERFLOW: the period does not fit the output width. -/
  | outputOverflow
deriving DecidableEq, Repr

/-- The outcome of the internal function `Convert` (spec/40_period_for_key.md R80). -/
inductive Conversion where
  /-- `Ok(P)`. -/
  | ok (period : Nat)
  /-- `Err(c)`. -/
  | err (cause : Cause)
deriving DecidableEq, Repr

/-- One response record (spec/30_encoding.md R64). The period's width is the configuration's `OUT_W`, so
it is a natural number here; that it is below `2^OUT_W` is part of the model's invariant. -/
structure Response where
  /-- 1 when `period` is the result, 0 when the result is absent. -/
  ok : Bit
  /-- 0 when `ok` is 1, else the code of the cause. -/
  cause : CauseCode
  /-- The period when `ok` is 1, 0 when `ok` is 0. -/
  period : Nat
deriving DecidableEq, Repr, Inhabited

/-- What one request comes to: exactly one response or exactly one fault (spec/30_encoding.md R65.5). -/
inductive Verdict where
  /-- `respond(ok, cause, period)`. -/
  | response (r : Response)
  /-- `raise Fault(cause)`. -/
  | fault (c : Cause)
deriving DecidableEq, Repr

/-- The input ports as one rising edge of `clk` samples them (spec/30_encoding.md R60). -/
structure PortIn where
  rst : Bit
  reqValid : Bit
  reqFreq : Freq
  reqKey : Key
  rspReady : Bit
deriving DecidableEq, Repr

/-- The output ports during one cycle (spec/30_encoding.md R60). -/
structure PortOut where
  reqReady : Bit
  rspValid : Bit
  rspOk : Bit
  rspCause : CauseCode
  /-- An `OUT_W`-bit field. -/
  rspPeriod : Nat
  faulted : Bit
  faultCause : CauseCode
deriving DecidableEq, Repr

/-- What the environment does in one step. The first two are the events of spec/40_period_for_key.md R92;
the third is one clock cycle at the ports, which R92 abstracts from (spec/30_encoding.md R65; DESIGN CHOICE, log
entry 24). -/
inductive Event where
  /-- The oldest request waiting is offered to the block as one atomic transaction. -/
  | request
  /-- The RESET directive: one cycle with `rst = 1` (spec/30_encoding.md R68). -/
  | reset
  /-- One rising edge of `clk` with these values at the input ports. -/
  | edge (p : PortIn)
deriving DecidableEq, Repr

end Sys2Proof
end

