-- ==== Sys2Proof/WellFormed.lean ====
section
/-! DEFINITION. The well-formedness of a configuration, one check per point of spec/00_scope.md R13, and of an
instruction in an instance. -/

namespace Sys2Proof

/-- R13(a): `SCALE >= 1`. -/
def Config.scalePositive (c : Config) : Bool := decide (1 ≤ c.scale)

/-- R13(b): `EXP_FRAC` has exactly 12 entries. -/
def Config.tableHasTwelve (c : Config) : Bool := decide (c.expFrac.length = 12)

/-- R13(c): `EXP_FRAC[0] = SCALE`. -/
def Config.tableStartsAtScale (c : Config) : Bool := decide (c.expFrac[0]? = some c.scale)

/-- R13(d): `EXP_FRAC[i] <= EXP_FRAC[i+1]` for `i` in 0..10. -/
def Config.tableMonotone (c : Config) : Bool :=
  (List.range 11).all fun i => decide (c.expFrac.getD i 0 ≤ c.expFrac.getD (i + 1) 0)

/-- R13(e): `EXP_FRAC[i] <= 2 * SCALE` for every `i`. -/
def Config.tableBounded (c : Config) : Bool := c.expFrac.all fun e => decide (e ≤ 2 * c.scale)

/-- R13(f): `BASE_FX >= 1`. -/
def Config.baseFxPositive (c : Config) : Bool := decide (1 ≤ c.baseFx)

/-- R13(g): `BASE_SHIFT >= 0`. It holds of every natural number (DEDUCED, log entry 12). -/
def Config.baseShiftNatural (c : Config) : Bool := decide (0 ≤ c.baseShift)

/-- R13(h): `W >= 1` and `OUT_W >= 1`. -/
def Config.widthsPositive (c : Config) : Bool := decide (1 ≤ c.workW) && decide (1 ≤ c.outW)

/-- The configuration is well formed in the sense of spec/00_scope.md R13, points (a) to (h). -/
def Config.meetsR13 (c : Config) : Bool :=
  c.scalePositive && c.tableHasTwelve && c.tableStartsAtScale && c.tableMonotone && c.tableBounded
    && c.baseFxPositive && c.baseShiftNatural && c.widthsPositive

/-- `LATENCY >= 1` (spec/30_encoding.md R65.3, spec/70_reset_and_hazards.md R147). -/
def Config.latencyPositive (c : Config) : Bool := decide (1 ≤ c.latency)

/-- The configurations the model gives a meaning to: R13 and the bound on `LATENCY` (DEDUCED, log entry 10). -/
def Config.wf (c : Config) : Bool := c.meetsR13 && c.latencyPositive

/-- An instruction is well formed in an instance when it is the row of the instance's contract
(spec/30_encoding.md R63). Its operands are never ill formed (R66). -/
def Instr.wf (v : Variant) (i : Instr) : Bool := decide (i.variant = v)

end Sys2Proof
end

