-- ==== Sys2Proof/Decode.lean ====
section
/-! DEFINITION. The request word's format: decoder, encoder, and the same on a word of any length
(spec/30_encoding.md R61 to R63, R66, R67). -/

namespace Sys2Proof

/-- `v[hi:lo]` of spec/00_scope.md R14: the field of bits `hi` down to `lo`. -/
def bitField (v hi lo : Nat) : Nat := v / 2 ^ lo % 2 ^ (hi - lo + 1)

/-- `F = q[31:0]` (R62). -/
def freqField (q : ReqWord) : Freq := q.extractLsb' 0 32

/-- `K = q[47:32]` (R62). -/
def keyField (q : ReqWord) : Key := q.extractLsb' 32 16

/-- Every 48-bit word is a request; the instance's `VARIANT` picks the row (R63, R66). -/
def decode (v : Variant) (q : ReqWord) : Instr :=
  match v with
  | .fallible => .periodForKeyFallible (freqField q) (keyField q)
  | .assertive => .periodForKeyAssertive (freqField q) (keyField q)

/-- The word whose fields are `F` and `K`: `q = {req_key, req_freq}` (R61). -/
def requestWord (f : Freq) (k : Key) : ReqWord := (k ++ f : BitVec (16 + 32))

/-- The request word of an instruction (R61). It holds the operands only: the contract is no field. -/
def encode (i : Instr) : ReqWord := requestWord i.freq i.key

/-- `enc(F, K) = K * 2^32 + F`, the encoding function as R61 writes it, on numbers. -/
def encNat (f k : Nat) : Nat := k * 2 ^ 32 + f

/-- Why a string of bits is no request. -/
inductive DecodeError where
  /-- There is one request length, 48 bits (spec/30_encoding.md R67). -/
  | wrongLength (nbits : Nat)
  /-- The number given does not fit in the bits it is said to have. -/
  | tooWide (nbits w : Nat)
deriving DecidableEq, Repr

/-- The request word that the number `w` of `nbits` bits is: there is one length, 48 bits, and a string of any other
length, shorter or longer, is no request (R67). -/
def requestBits (nbits w : Nat) : Except DecodeError ReqWord :=
  if nbits ≠ 48 then .error (.wrongLength nbits)
  else if 2 ^ 48 ≤ w then .error (.tooWide nbits w)
  else .ok (BitVec.ofNat 48 w)

/-- The decoder on any number of bits: it takes exactly 48 and rejects the rest by name (R67). -/
def decodeBits (v : Variant) (nbits w : Nat) : Except DecodeError Instr :=
  (requestBits nbits w).map (decode v)

/-- The contract of the build that `State.reset` describes (DESIGN CHOICE, log entry 1). -/
def Config.resetVariant : Variant := .fallible

/-- What the decoder of the instance that `State.reset` describes reads from the word `w` of `nbits` bits.
Both rows of the opcode table have the same 48-bit words (R63), so this answers the row of that instance's contract
(DESIGN CHOICE, log entry 1), and it answers none for any other length (R67; log entry 23). -/
def decodeTableWord (nbits w : Nat) : Option Instr := (decodeBits Config.resetVariant nbits w).toOption

end Sys2Proof
end

