-- ==== Sys2Proof/Machine/Operands.lean ====
section
/-! DEFINITION. The operands of a request and what the pipeline makes of the key
(spec/30_encoding.md R62; spec/40_period_for_key.md R81, R82; spec/20_memory.md R41). -/

namespace Sys2Proof.Machine

/-- `K > 127`, the key compared as an unsigned number: never masked, folded or clamped (R81). -/
def keyOutOfRange (k : Nat) : Bool := decide (keyMax < k)

/-- `o = K / 12` (R82). -/
def octave (k : Nat) : Nat := k / semitones

/-- `s = K mod 12` (R82). -/
def semitone (k : Nat) : Nat := k % semitones

/-- The semitone in the 4-bit field that addresses the table (R41). -/
def tableIndex (k : Nat) : TableIndex := BitVec.ofNat 4 (semitone k)

end Sys2Proof.Machine
end

