-- ==== Sys2Proof/Machine/Convert.lean ====
section
/-! DEFINITION. The pipeline `Convert` of spec/40_period_for_key.md, one definition per step, and the two forms
the spec says an implementation may compute instead. All arithmetic is exact (spec/00_scope.md R15). -/

namespace Sys2Proof.Machine

/-- `TableRead(s)`: the entry at a table index (spec/20_memory.md R42). The address map is indices 0 to 11
(R46); an index beyond the table answers nothing (DEDUCED, log entries 16 and 18). -/
def tableRead (c : Config) (i : TableIndex) : Option Nat := c.expFrac[i.toNat]?

/-- `N = F * SCALE` (R83). -/
def product (c : Config) (f : Nat) : Nat := f * c.scale

/-- The working-width guard `N > 2^W - 1` (R83). -/
def productOverflows (c : Config) (f : Nat) : Bool := decide (2 ^ c.workW - 1 < product c f)

/-- `2^o` (R84). -/
def octaveFactor (o : Nat) : Nat := 2 ^ o

/-- `A = N * 2^BASE_SHIFT` (R85). -/
def scaledNumerator (c : Config) (f : Nat) : Nat := product c f * 2 ^ c.baseShift

/-- `D = BASE_FX * EXP_FRAC[s] * 2^o`, with `e` the table's entry (R85). -/
def denominator (c : Config) (e o : Nat) : Nat := c.baseFx * e * octaveFactor o

/-- `(2*A + D) / (2*D)`, round half up (R86, R93). -/
def roundedQuotient (a d : Nat) : Nat := (2 * a + d) / (2 * d)

/-- The narrowing check `P > 2^OUT_W - 1` (R87; DEDUCED, log entry 11). -/
def outputOverflows (c : Config) (p : Nat) : Bool := decide (2 ^ c.outW - 1 < p)

/-- Steps 4 to 6: the period before narrowing, from the table's entry (R84 to R86). -/
def periodFromEntry (c : Config) (e f k : Nat) : Nat :=
  roundedQuotient (scaledNumerator c f) (denominator c e (octave k))

/-- Step 7 (R87). -/
def narrow (c : Config) (p : Nat) : Conversion :=
  if outputOverflows c p then .err .outputOverflow else .ok p

/-- `Convert(F, K)` (R80): the first failing check decides (spec/60_exceptions.md R122). It answers `none`
only where the table read finds no entry, which no well-formed configuration allows (R41). -/
def convert (c : Config) (f k : Nat) : Option Conversion :=
  if keyOutOfRange k then some (.err .keyRange)
  else if productOverflows c f then some (.err .productOverflow)
  else (tableRead c (tableIndex k)).map fun e => narrow c (periodFromEntry c e f k)

/-- The value of step 6 for a key, whatever the guards say (R99). -/
def unguardedPeriod (c : Config) (f k : Nat) : Option Nat :=
  (tableRead c (tableIndex k)).map fun e => periodFromEntry c e f k

/-- The quotient-and-remainder form of the rounding (R94). -/
def roundedByRemainder (a d : Nat) : Nat := a / d + (if d ≤ 2 * (a % d) then 1 else 0)

/-- The octave-offset form (R95): the numerator is shifted by `BASE_SHIFT - o` and the denominator has no
octave factor. It is meant for `o <= BASE_SHIFT`. -/
def octaveOffsetPeriod (c : Config) (e f k : Nat) : Nat :=
  roundedQuotient (product c f * 2 ^ (c.baseShift - octave k)) (c.baseFx * e)

end Sys2Proof.Machine
end

