-- ==== Sys2Proof/Machine/Flags.lean ====
section
/-! DEFINITION. The status fields: the cause codes of spec/60_exceptions.md R121 and the response record of
spec/30_encoding.md R64, field by field and packed in one word. -/

namespace Sys2Proof.Machine

/-- Code 0, NONE (R121). -/
def causeNone : CauseCode := 0

/-- The code of a cause (R121). -/
def causeCode : Cause → CauseCode
  | .keyRange => 1
  | .productOverflow => 2
  | .outputOverflow => 3

/-- The record of a result: `ok = 1`, `cause = 0` (R64). -/
def okRecord (p : Nat) : Response := { ok := 1, cause := causeNone, period := p }

/-- The record of an absent result: `ok = 0`, the cause, period 0 (R64). -/
def absentRecord (c : Cause) : Response := { ok := 0, cause := causeCode c, period := 0 }

/-- The packed word of `OUT_W + 3` bits (R64): `ok` on top, then `cause`, then `period`. -/
def packRecord (outW : Nat) (r : Response) : BitVec (outW + 3) :=
  BitVec.ofNat (outW + 3) (r.ok.toNat * 2 ^ (outW + 2) + r.cause.toNat * 2 ^ outW + r.period)

/-- The three fields of a packed word (R64). -/
def unpackRecord (outW : Nat) (w : BitVec (outW + 3)) : Response :=
  { ok := BitVec.ofNat 1 (bitField w.toNat (outW + 2) (outW + 2))
    cause := BitVec.ofNat 2 (bitField w.toNat (outW + 1) outW)
    period := bitField w.toNat (outW - 1) 0 }

end Sys2Proof.Machine
end

