-- ==== Sys2Proof/Machine/Reference.lean ====
section
/-! DEFINITION. The spec's reference configuration and the numbers derived from it
(spec/00_scope.md R10, R11; spec/10_state.md R25, R26). -/

namespace Sys2Proof

/-- The reference `EXP_FRAC` (spec/10_state.md R25). -/
def referenceTable : List Nat :=
  [1024, 1085, 1149, 1218, 1290, 1367, 1448, 1534, 1625, 1722, 1825, 1933]

/-- `OUT_W`: 16 for FALLIBLE and 32 for ASSERTIVE (R9). -/
def referenceOutW : Variant → Nat
  | .fallible => 16
  | .assertive => 32

/-- The reference configuration for a contract (R10). `LATENCY` is no part of R10: it is open, and the
value here is the model's (DESIGN CHOICE, log entry 2). -/
def Config.reference (v : Variant) : Config :=
  { variant := v, workW := 32, outW := referenceOutW v, scale := 1024, expFrac := referenceTable,
    baseFx := 33488, baseShift := 12, latency := 1 }

/-- The literal configuration: the reference one with `BASE_FX = 2^BASE_SHIFT` (R10, conflict C1). -/
def Config.literal (v : Variant) : Config := { Config.reference v with baseFx := 4096 }

/-- The safe input ceiling `F_MAX = floor((2^W - 1) / SCALE)` (R11). -/
def Config.fMax (c : Config) : Nat := (2 ^ c.workW - 1) / c.scale

end Sys2Proof
end

