-- ==== Sys2Proof/Machine/State.lean ====
section
/-! DEFINITION. The state of one instance of the block (spec/10_state.md R31, every row of its table), the
environment's side of the ports as plain data, the reasons a step can stop, and the state after reset. -/

namespace Sys2Proof.Machine

/-- The in-flight slot of spec/10_state.md R29, with the response ports it drives: at most one accepted
request whose response has not been delivered (spec/30_encoding.md R65). -/
inductive Slot where
  /-- No request is in flight. -/
  | empty
  /-- A request was accepted and its response is `left` rising edges away. -/
  | waiting (q : ReqWord) (left : Nat)
  /-- The response is presented: outside reset and fault, `rsp_valid = 1` with this record on `rsp_ok`, `rsp_cause`,
  `rsp_period`. -/
  | presenting (r : Response)
deriving DecidableEq, Repr, Inhabited

/-- The whole state. `cfg` is what the instance was built with: no step changes it. -/
structure State where
  /-- The build parameters and constants: `VARIANT`, `SCALE`, `EXP_FRAC`, `BASE_FX`, `BASE_SHIFT` (R31), and
  the widths and `LATENCY` of spec/00_scope.md R9 (DESIGN CHOICE, log entry 3). -/
  cfg : Config
  /-- The latch `FAULTED` (R27). In a FALLIBLE instance reads of it give 0: see `State.readFaulted`. -/
  faulted : Bit
  /-- `FAULT_CAUSE` (R28). In a FALLIBLE instance reads of it give 0: see `State.readFaultCause`. -/
  faultCause : CauseCode
  /-- The in-flight slot and the response it presents (R29, R23). -/
  slot : Slot
  /-- The environment's: requests waiting to be accepted, in the order the arbiter outside the block
  offers them (spec/60_exceptions.md R131). -/
  requests : List ReqWord
  /-- The environment's: what it does in the steps to come, the next one first. When the list is empty the
  environment goes on offering requests. -/
  env : List Event
  /-- The environment's: the response records delivered to it, oldest first (DESIGN CHOICE, log entry 15). -/
  delivered : List Response
  /-- The model's own: how many steps were taken, the argument of the free values. -/
  freeCount : Nat
deriving DecidableEq, Repr

/-- The reasons a step can stop with a fault. An ASSERTIVE error is none of them: it is a next state with
`FAULTED` set (spec/60_exceptions.md R124; DEDUCED, log entry 8). -/
inductive Fault where
  /-- The table was read at an index that holds no entry (spec/20_memory.md R42, R46). Raised by the two
  meanings and by the clocked completion of a request when the table read answers nothing. Safe: under a
  well-formed configuration no request forms such an index (R41), so no step raises it (DEDUCED, log entry 16). -/
  | noTableEntry
deriving DecidableEq, Repr

/-- The reasons a step can be refused. -/
inductive Refusal where
  /-- The instruction has no meaning in the model. Raised by no arm of this model. Safe. -/
  | notModelled (mnemonic : String)
  /-- The configuration is ill formed: a build-time defect, to which the model gives no meaning
  (spec/00_scope.md R13, spec/92_eei_decisions.md D20). Raised by every step and every meaning. Safe. -/
  | illFormedConfiguration
  /-- The instruction is the row of the contract that this instance does not implement
  (spec/30_encoding.md R63). Raised by the meanings only: no decoded request is one. Safe (DESIGN CHOICE, log
  entry 9). -/
  | otherContract
deriving DecidableEq, Repr

/-- An instance with configuration `c` right after reset (spec/70_reset_and_hazards.md R141): not faulted,
nothing in flight, no response pending. The environment has asked for nothing yet (DESIGN CHOICE,
log entries 4 and 21). -/
def State.resetOf (c : Config) : State :=
  { cfg := c, faulted := 0, faultCause := 0, slot := .empty, requests := [], env := [], delivered := [],
    freeCount := 0 }

/-- The machine right after reset, for the build of log entries 1 and 2. -/
def State.reset : State := State.resetOf (Config.reference Config.resetVariant)

/-- Free value: the in-flight slot between power-up and the first reset (R142). DESIGN CHOICE, log entry 13. -/
opaque freePowerUpSlot : Nat → Slot

/-- An instance with configuration `c` between power-up and its first reset: the latches and the slot are
unspecified (R142). No run of `step` starts here; a reset event takes it to the state of R141. -/
def State.powerUp (c : Config) (n : Nat) : State :=
  { State.resetOf c with
    faulted := Config.freeFaulted n, faultCause := Config.freeFaultCause n, slot := freePowerUpSlot n,
    freeCount := n }

end Sys2Proof.Machine
end

