-- ==== Sys2Proof/Machine/Ops.lean ====
section
/-! DEFINITION. The named operations over the state: reading the latches, readiness, responding, raising a
fault and leaving it by reset (spec/10_state.md R27, R28; spec/30_encoding.md R65;
spec/60_exceptions.md R123 to R126; spec/70_reset_and_hazards.md R141). -/

namespace Sys2Proof.Machine

/-- One step has passed: the free values of the next state are fresh ones. -/
def State.tick (s : State) : State := { s with freeCount := s.freeCount + 1 }

/-- Reading a latch: in a FALLIBLE instance it is hardwired to 0 (R27, R28). -/
def latchRead {w : Nat} (v : Variant) (stored : BitVec w) : BitVec w :=
  match v with
  | .fallible => 0
  | .assertive => stored

/-- Writing a latch: a FALLIBLE instance has none to write (R27, R28). -/
def latchWrite {w : Nat} (v : Variant) (stored new : BitVec w) : BitVec w :=
  match v with
  | .fallible => stored
  | .assertive => new

/-- Reading `FAULTED` (R27). -/
def State.readFaulted (s : State) : Bit := latchRead s.cfg.variant s.faulted

/-- Reading `FAULT_CAUSE` (R28). -/
def State.readFaultCause (s : State) : CauseCode := latchRead s.cfg.variant s.faultCause

/-- Writing the pair of latches in one step (R28). -/
def State.writeFault (s : State) (faulted : Bit) (cause : CauseCode) : State :=
  { s with
    faulted := latchWrite s.cfg.variant s.faulted faulted
    faultCause := latchWrite s.cfg.variant s.faultCause cause }

/-- The block can accept a request: `FAULTED = 0` and nothing is in flight (R65.1, outside reset). -/
def State.ready (s : State) : Bool := decide (s.readFaulted = 0) && decide (s.slot = .empty)

/-- A request is in flight, its response `left` edges away (R29, R65.3). -/
def State.await (q : ReqWord) (left : Nat) (s : State) : State := { s with slot := .waiting q left }

/-- Presenting a response at the ports: `rsp_valid` becomes 1 (R65.3). -/
def State.present (r : Response) (s : State) : State := { s with slot := .presenting r }

/-- Delivering a response: it is the requester's, and the in-flight slot empties (R65.3). -/
def State.deliver (r : Response) (s : State) : State :=
  { s with slot := .empty, delivered := s.delivered ++ [r] }

/-- TAKING A FAULT, `raise Fault(c)`: `FAULTED <- 1`, `FAULT_CAUSE <- c`, the in-flight request is dropped and
no response is ever sent for it (R124, R65.4). -/
def State.raiseFault (c : Cause) (s : State) : State :=
  { s.writeFault 1 (causeCode c) with slot := .empty }

/-- THE ONLY WAY OUT OF A FAULT, a reset edge: `FAULTED` and `FAULT_CAUSE` become 0 and the in-flight slot
empties, its request dropped (R125, R141). The constants stay, and so does what is the environment's:
requests that were not accepted wait on, responses delivered stay delivered (DEDUCED, log entry 14). -/
def State.resetEdge (s : State) : State :=
  { s with faulted := 0, faultCause := 0, slot := .empty }

/-- The end of a transaction: its response is delivered or its fault is taken (spec/40_period_for_key.md R92). -/
def State.conclude (s : State) : Verdict → State
  | .response r => s.deliver r
  | .fault c => s.raiseFault c

/-- The end of a request's work at the ports: its response is presented or its fault is taken (R65.3, R65.4). -/
def State.finish (s : State) : Verdict → State
  | .response r => s.present r
  | .fault c => s.raiseFault c

/-- The frame of both instructions (R92): one atomic step in an instance of the instruction's own contract.
A request that the block cannot accept is held, and nothing changes (DEDUCED, log entries 5 and 20). `verdict` is what the instruction
comes to, `none` where the table holds no entry for it. -/
def transact (v : Variant) (verdict : Option Verdict) (s : State) : Host.Outcome State Fault Refusal :=
  if s.cfg.wf = false then .refused .illFormedConfiguration
  else if s.cfg.variant ≠ v then .refused .otherContract
  else if s.ready = false then .next s
  else
    match verdict with
    | none => .fault .noTableEntry
    | some r => .next (s.conclude r)

end Sys2Proof.Machine
end

