-- ==== Sys2Proof/Machine/PeriodForKey.lean ====
section
/-! DEFINITION. The meanings of the two instructions (spec/40_period_for_key.md R90 to R92). -/

namespace Sys2Proof.Machine

/-- `PERIOD_FOR_KEY_FALLIBLE`: every error is a response with the result absent (R90,
spec/60_exceptions.md R123). -/
def fallibleVerdict : Conversion → Verdict
  | .ok p => .response (okRecord p)
  | .err c => .response (absentRecord c)

/-- `PERIOD_FOR_KEY_ASSERTIVE`: every error is a fault (R91, spec/60_exceptions.md R124). -/
def assertiveVerdict : Conversion → Verdict
  | .ok p => .response (okRecord p)
  | .err c => .fault c

/-- What a request comes to in an instance with configuration `c`. -/
def instrVerdict (c : Config) : Instr → Option Verdict
  | .periodForKeyFallible f k => (convert c f.toNat k.toNat).map fallibleVerdict
  | .periodForKeyAssertive f k => (convert c f.toNat k.toNat).map assertiveVerdict

/-- `PERIOD_FOR_KEY.FALLIBLE` (R90). -/
def execPeriodForKeyFallible (f : Freq) (k : Key) (s : State) : Host.Outcome State Fault Refusal :=
  transact .fallible (instrVerdict s.cfg (.periodForKeyFallible f k)) s

/-- `PERIOD_FOR_KEY.ASSERTIVE` (R91). -/
def execPeriodForKeyAssertive (f : Freq) (k : Key) (s : State) : Host.Outcome State Fault Refusal :=
  transact .assertive (instrVerdict s.cfg (.periodForKeyAssertive f k)) s

end Sys2Proof.Machine
end

