-- ==== Sys2Proof/Machine/Dispatch.lean ====
section
/-! DEFINITION. One arm per row of the opcode table. -/

namespace Sys2Proof.Machine

def exec (i : Instr) (s : State) : Host.Outcome State Fault Refusal :=
  match i with
  | .periodForKeyFallible f k => Sys2Proof.Machine.execPeriodForKeyFallible f k s
  | .periodForKeyAssertive f k => Sys2Proof.Machine.execPeriodForKeyAssertive f k s

end Sys2Proof.Machine
end

