-- ==== Sys2Proof/Machine/Ports.lean ====
section
/-! DEFINITION. The block at its ports: what the outputs show during a cycle and what a rising edge of `clk` does
(spec/30_encoding.md R60, R65; spec/60_exceptions.md R124 to R126; spec/70_reset_and_hazards.md R140, R141). -/

namespace Sys2Proof.Machine

/-- `req_ready`: 1 exactly when `FAULTED = 0`, nothing is in flight and `rst = 0` (R65.1, R140). -/
def reqReady (rst : Bit) (s : State) : Bit := if s.ready && decide (rst = 0) then 1 else 0

/-- The response presented in a cycle in which `rst` is the given bit: the record in the slot (R65.3), none while
`rst = 1` (R140) or `FAULTED = 1` (R125). -/
def presented (rst : Bit) (s : State) : Option Response :=
  match s.slot with
  | .presenting r => if decide (rst = 0) && decide (s.readFaulted = 0) then some r else none
  | _ => none

/-- `rsp_valid`: 1 exactly while a response is presented (R65.3, R140, R125). -/
def rspValid (rst : Bit) (s : State) : Bit := if (presented rst s).isSome then 1 else 0

/-- What `rsp_ok`, `rsp_cause` and `rsp_period` hold while `rsp_valid = 0`: free values, the period cut to its
port's `OUT_W` bits (R141; spec/93_implementation_defined.md row 14; DESIGN CHOICE, log entry 6). -/
def unpresentedRecord (s : State) : Response :=
  { ok := Config.freeRspOk s.freeCount, cause := Config.freeRspCause s.freeCount,
    period := Config.freeRspPeriod s.freeCount % 2 ^ s.cfg.outW }

/-- The response record the ports show: the one presented (R64), and free values in every cycle with
`rsp_valid = 0`. A cycle with `rst = 1`, or with `FAULTED = 1`, is such a cycle even where the slot holds a
response: the ports do not go on showing that record (DESIGN CHOICE, log entry 6). -/
def shownRecord (rst : Bit) (s : State) : Response := (presented rst s).getD (unpresentedRecord s)

/-- The output ports during a cycle in which `rst` is the given bit (R60). -/
def outputs (rst : Bit) (s : State) : PortOut :=
  let r := shownRecord rst s
  { reqReady := reqReady rst s, rspValid := rspValid rst s, rspOk := r.ok, rspCause := r.cause,
    rspPeriod := r.period, faulted := s.readFaulted, faultCause := s.readFaultCause }

/-- The word the request ports carry: `q = {req_key, req_freq}` (R61). -/
def portWord (p : PortIn) : ReqWord := requestWord p.reqFreq p.reqKey

/-- The edge at which an accepted request's work is done: its response is presented, or its fault is
taken (R65.3, R65.4). -/
def finishRequest (q : ReqWord) (s : State) : Host.Outcome State Fault Refusal :=
  match instrVerdict s.cfg (decode s.cfg.variant q) with
  | none => .fault .noTableEntry
  | some v => .next (s.finish v)

/-- One rising edge of `clk` outside reset, in a block that is not faulted. The response of a request accepted
at one edge appears `LATENCY` edges later (R65.3; DEDUCED and DESIGN CHOICE, log entries 7 and 22). -/
def workingEdge (p : PortIn) (s : State) : Host.Outcome State Fault Refusal :=
  match s.slot with
  | .empty => .next (if p.reqValid = 1 then s.await (portWord p) s.cfg.latency else s)
  | .waiting q left =>
    if 1 < left then .next (s.await q (left - 1)) else finishRequest q s
  | .presenting r => .next (if p.rspReady = 1 then s.deliver r else s)

/-- One rising edge of `clk`. Reset wins over everything (R126, R140); while `FAULTED = 1` nothing else
happens (R125; DEDUCED, log entry 19). -/
def clockEdge (p : PortIn) (s : State) : Host.Outcome State Fault Refusal :=
  if p.rst = 1 then .next s.resetEdge
  else if s.readFaulted = 1 then .next s
  else workingEdge p s

end Sys2Proof.Machine
end

