-- ==== Sys2Proof/Machine/Events.lean ====
section
/-! DEFINITION. What each event of the environment does to the block (spec/40_period_for_key.md R92,
spec/60_exceptions.md R125, R131), and how a request comes to be the next one to run. -/

namespace Sys2Proof.Machine

/-- A request event (R92): the oldest request waiting is accepted, decoded and executed as one atomic step.
If the block cannot accept it, it waits on (R125; DEDUCED, log entry 5). With no request waiting the block idles
(spec/60_exceptions.md R134). -/
def offerRequest (s : State) : Host.Outcome State Fault Refusal :=
  match s.requests with
  | [] => .next s
  | q :: rest =>
    if s.ready then exec (decode s.cfg.variant q) { s with requests := rest } else .next s

/-- One event. -/
def handleEvent (e : Event) (s : State) : Host.Outcome State Fault Refusal :=
  match e with
  | .request => offerRequest s
  | .reset => .next s.resetEdge
  | .edge p => clockEdge p s

/-- The event of the next step: the environment's next one, or a request event when it has none left. -/
def State.nextEvent (s : State) : Event := s.env.headD .request

/-- The state with that event taken from the environment's list, and the step counted. -/
def State.takeEvent (s : State) : State := { s.tick with env := s.env.tail }

/-- One step of a well-formed instance; an ill-formed one has no meaning (spec/00_scope.md R13). -/
def stepEvent (s : State) : Host.Outcome State Fault Refusal :=
  if s.cfg.wf = false then .refused .illFormedConfiguration
  else handleEvent s.nextEvent s.takeEvent

/-- The request word `q` offered as the very next request to a block ready to accept it (DESIGN CHOICE, log
entry 4). -/
def State.offerWord (s : State) (q : ReqWord) : State :=
  { s with faulted := 0, faultCause := 0, slot := .empty, requests := q :: s.requests, env := .request :: s.env }

/-- The word `w` of `nbits` bits offered as the very next request. What is not 48 bits is no request (R67), so
nothing is offered and the state is as it was (DEDUCED, log entry 23). -/
def State.offerNext (s : State) (nbits w : Nat) : State :=
  match requestBits nbits w with
  | .error _ => s
  | .ok q => s.offerWord q

end Sys2Proof.Machine
end

