-- ==== Sys2Proof/Machine/Step.lean ====
section
/-! DEFINITION. One step of the machine: one event of the environment (spec/40_period_for_key.md R92). -/

namespace Sys2Proof.Machine

/-- One step. The block has no program counter and fetches nothing from a memory (spec/10_state.md R22):
its instructions are the requests the environment offers. -/
def step (s : State) : Host.Outcome State Fault Refusal := stepEvent s

/-- The state with the instruction of these bits as the very next request the block accepts and runs; what is
not 48 bits is no request, and leaves the state as it is (DEDUCED, log entry 23). -/
def State.withFetchWord (s : State) (nbits w : Nat) : State := s.offerNext nbits w

end Sys2Proof.Machine
end

