-- ==== Sys2Proof/Machine/Assembler.lean ====
section
/-! DEFINITION. The notation of spec/30_encoding.md R68: a line of a program read from its characters, the request
or directive it spells, and how the spec writes an outcome. -/

namespace Sys2Proof.Machine

/-- The value of a digit in a base up to 16. -/
def digitValue (base : Nat) (c : Char) : Option Nat :=
  let n := c.toNat
  let v :=
    if 48 ≤ n && n ≤ 57 then some (n - 48)
    else if 65 ≤ n && n ≤ 70 then some (n - 55)
    else if 97 ≤ n && n ≤ 102 then some (n - 87)
    else none
  v.filter fun d => decide (d < base)

/-- The number that digits spell in a base, the most significant first. -/
def digitsValue (base : Nat) : Nat → List Char → Option Nat
  | acc, [] => some acc
  | acc, c :: cs => (digitValue base c).bind fun d => digitsValue base (acc * base + d) cs

/-- An operand: an unsigned decimal number or a `0x`-prefixed hexadecimal number (R68). -/
def readOperand : List Char → Option Nat
  | [] => none
  | ['0', 'x'] => none
  | '0' :: 'x' :: ds => digitsValue 16 0 ds
  | ds => digitsValue 10 0 ds

/-- What a line of a program spells. -/
inductive Line where
  /-- `PERIOD_FOR_KEY F, K` or `PFK F, K`. -/
  | request (q : ReqWord)
  /-- `RESET`, one cycle with `rst = 1`. -/
  | reset
deriving DecidableEq, Repr

/-- The request two operands spell: none when `F > 2^32 - 1` or `K > 65535` (R68). -/
def spellRequest (f k : Nat) : Option ReqWord :=
  if 2 ^ 32 - 1 < f then none
  else if 65535 < k then none
  else some (requestWord (BitVec.ofNat 32 f) (BitVec.ofNat 16 k))

/-- The text after a word that starts a line. -/
def afterWord : List Char → List Char → Option (List Char)
  | [], rest => some rest
  | _ :: _, [] => none
  | a :: as, c :: cs => if a = c then afterWord as cs else none

/-- The operands `F, K`, with the comma and the space R68 writes between them (DESIGN CHOICE, log entry 17). -/
def readOperands (cs : List Char) : Option ReqWord :=
  (readOperand (cs.takeWhile (· ≠ ','))).bind fun f =>
    (afterWord [',', ' '] (cs.dropWhile (· ≠ ','))).bind fun rest =>
      (readOperand rest).bind fun k => spellRequest f k

/-- A line of a program (R68). -/
def readLine (cs : List Char) : Option Line :=
  if cs = "RESET".toList then some .reset
  else
    ((afterWord "PERIOD_FOR_KEY ".toList cs).orElse fun _ => afterWord "PFK ".toList cs).bind fun rest =>
      (readOperands rest).map Line.request

/-- The line as the environment issues it: a request joins those waiting and is offered, a RESET is a reset
event. -/
def State.issue (l : Line) (s : State) : State :=
  match l with
  | .request q => { s with requests := s.requests ++ [q], env := s.env ++ [.request] }
  | .reset => { s with env := s.env ++ [.reset] }

/-- A number written in decimal. -/
def decimalText (n : Nat) : List Char := Nat.toDigits 10 n

/-- How the spec writes an outcome: `OK P`, `ABSENT c` or `FAULT c` (R68). -/
def outcomeText : Verdict → List Char
  | .response r =>
    if r.ok = 1 then "OK ".toList ++ decimalText r.period else "ABSENT ".toList ++ decimalText r.cause.toNat
  | .fault c => "FAULT ".toList ++ decimalText (causeCode c).toNat

end Sys2Proof.Machine
end

