-- ==== Sys2Proof/Safety.lean ====
section
/-! DEFINITION. The terms the claims use: the transaction-level state of spec/40_period_for_key.md R92, what the
requester owes (spec/70_reset_and_hazards.md R144, R146), and the invariant of a block that was reset. -/

namespace Sys2Proof.Machine

/-- The transaction-level state `S = (FAULTED, FAULT_CAUSE)` of R92, as the ports read it. -/
def State.faultState (s : State) : Bit × CauseCode := (s.readFaulted, s.readFaultCause)

/-- A response record an instance may send (spec/30_encoding.md R64): a period that fits its port, or, in a
FALLIBLE instance only, an absent result with a cause and the period field 0. -/
def legalRecord (c : Config) (r : Response) : Prop :=
  (r.ok = 1 ∧ r.cause = 0 ∧ r.period < 2 ^ c.outW) ∨
    (c.variant = .fallible ∧ r.ok = 0 ∧ r.cause ≠ 0 ∧ r.period = 0)

/-- An in-flight slot an instance may hold: a response at most `LATENCY` edges away, or a legal record. -/
def legalSlot (c : Config) : Slot → Prop
  | .empty => True
  | .waiting _ left => 1 ≤ left ∧ left ≤ c.latency
  | .presenting r => legalRecord c r

/-- The invariant of a block that was reset (spec/70_reset_and_hazards.md R142): `FAULT_CAUSE` reads 0
exactly when `FAULTED` does (spec/10_state.md R28), a faulted block has nothing in flight
(spec/60_exceptions.md R124), and every record in the slot or delivered is a legal one. -/
structure State.Inv (s : State) : Prop where
  causeAgrees : s.readFaultCause = 0 ↔ s.readFaulted = 0
  faultedIdle : s.readFaulted = 1 → s.slot = .empty
  slotLegal : legalSlot s.cfg s.slot
  deliveredLegal : ∀ r ∈ s.delivered, legalRecord s.cfg r

/-- What an ASSERTIVE requester owes (R144): `K <= 127`, `F <= F_MAX` and a period that fits the output. -/
def meetsPreconditions (c : Config) (f k : Nat) : Prop :=
  k ≤ keyMax ∧ f ≤ c.fMax ∧ ∃ p, unguardedPeriod c f k = some p ∧ p ≤ 2 ^ c.outW - 1

/-- The same of a request word (spec/30_encoding.md R62). -/
def wordMeetsPreconditions (c : Config) (q : ReqWord) : Prop :=
  meetsPreconditions c (freqField q).toNat (keyField q).toNat

/-- A request is accepted at this edge (spec/30_encoding.md R65.2). -/
def acceptsAt (p : PortIn) (s : State) : Prop := p.reqValid = 1 ∧ reqReady p.rst s = 1

/-- A response is delivered at this edge (R65.3). -/
def deliversAt (p : PortIn) (s : State) : Prop := p.rspReady = 1 ∧ rspValid p.rst s = 1

/-- The response ports carry the three fields of this record (R64). -/
def portsCarry (o : PortOut) (r : Response) : Prop :=
  o.rspOk = r.ok ∧ o.rspCause = r.cause ∧ o.rspPeriod = r.period

/-- The requester's obligation of R146(a) between the inputs of one edge and of the next: a request raised
and not accepted stays raised, with its operands unchanged. -/
def keepsRequest (p p' : PortIn) (s : State) : Prop :=
  p.reqValid = 1 → ¬ acceptsAt p s →
    p'.reqValid = 1 ∧ p'.reqFreq = p.reqFreq ∧ p'.reqKey = p.reqKey

/-- The requester keeps R146(a) at every edge of a run of edges that starts in `s`. -/
def keepsRequests : State → List PortIn → Prop
  | s, p :: p' :: ps =>
    keepsRequest p p' s ∧ ∀ t, clockEdge p s = .next t → keepsRequests t (p' :: ps)
  | _, _ => True

/-- No edge of a run of edges that starts in `s` accepts a request. -/
def acceptsNowhere : State → List PortIn → Prop
  | s, p :: ps => ¬ acceptsAt p s ∧ ∀ t, clockEdge p s = .next t → acceptsNowhere t ps
  | _, [] => True

/-- `n` steps, stopping at the first that answers no next state. -/
def runSteps : Nat → State → Host.Outcome State Fault Refusal
  | 0, s => .next s
  | n + 1, s =>
    match step s with
    | .next t => runSteps n t
    | .fault r => .fault r
    | .refused r => .refused r

/-- The event is no reset: neither the directive nor an edge with `rst = 1`. -/
def noReset : Event → Prop
  | .request => True
  | .reset => False
  | .edge p => p.rst = 0

/-- Every request in sight of the block keeps the requester's preconditions (R144): those waiting, the one in
flight, and those the environment will present at the ports. -/
def State.requestersKeepPreconditions (s : State) : Prop :=
  (∀ q ∈ s.requests, wordMeetsPreconditions s.cfg q) ∧
  (∀ q left, s.slot = .waiting q left → wordMeetsPreconditions s.cfg q) ∧
  (∀ p, Event.edge p ∈ s.env → p.reqValid = 1 → wordMeetsPreconditions s.cfg (portWord p))

end Sys2Proof.Machine
end

