-- ==== Sys2Proof/Certificates/Slice0/Obligations.lean ====
section
/-! DEFINITION. The statements for the provers, family by family: the request word, the pipeline, the two
instructions, faults and reset, the queue of requests, the ports, and whole-machine rules. -/

open Sys2Proof Sys2Proof.Machine

/-! ### The request word -/

/-- For every instance, decoding the word of a well-formed instruction gives the instruction back, from the
48-bit word and from the word as 48 bits of a number (R61, R62, R63). -/
def Obligations.DecodeOfEncode : Prop :=
  ∀ (v : Variant) (i : Instr), i.wf v = true →
    decode v (encode i) = i ∧ decodeBits v 48 (encode i).toNat = .ok i

/-- Every 48-bit word is the word of the instruction it decodes to: no bit is dropped (R63, R66). -/
def Obligations.EncodeOfDecode : Prop :=
  ∀ (v : Variant) (q : ReqWord), encode (decode v q) = q ∧ (decode v q).wf v = true

/-- R61: bits 47:32 of the request word are `K` and bits 31:0 are `F`; its number is `K * 2^32 + F`; the request
ports carry exactly this word; and `enc(1000000, 69) = 0x0045000F4240`. -/
def Obligations.RequestWordLayout : Prop :=
  (∀ i : Instr, bitField (encode i).toNat 47 32 = i.key.toNat ∧ bitField (encode i).toNat 31 0 = i.freq.toNat ∧
    (encode i).toNat = i.key.toNat * 2 ^ 32 + i.freq.toNat) ∧
  (∀ p : PortIn, (portWord p).toNat = p.reqKey.toNat * 2 ^ 32 + p.reqFreq.toNat) ∧
  encNat 1000000 69 = 0x0045000F4240

/-- R62: in every instance, `F` is bits 31:0 and `K` bits 47:32 of the word, both as unsigned numbers. -/
def Obligations.OperandsOfEveryWord : Prop :=
  ∀ (v : Variant) (q : ReqWord),
    (decode v q).freq.toNat = bitField q.toNat 31 0 ∧ (decode v q).freq.toNat ≤ 2 ^ 32 - 1 ∧
    (decode v q).key.toNat = bitField q.toNat 47 32 ∧ (decode v q).key.toNat ≤ 65535

/-- R63: every 48-bit word is PERIOD_FOR_KEY, and the instance's `VARIANT` says which row it is. -/
def Obligations.EveryWordIsTheVariantsRow : Prop :=
  ∀ q : ReqWord,
    (∃ f k, decode .fallible q = .periodForKeyFallible f k) ∧
    (∃ f k, decode .assertive q = .periodForKeyAssertive f k)

/-- R67: the decoder takes exactly 48 bits. -/
def Obligations.OnlyFortyEightBitsDecode : Prop :=
  ∀ (v : Variant) (nbits w : Nat), w < 2 ^ nbits →
    ((∃ i, decodeBits v nbits w = .ok i) ↔ nbits = 48)

/-- R69: the worked encodings, each decoded in both instances. -/
def Obligations.WorkedEncodings : Prop :=
  ∀ x ∈ ([(1000000, 69, 0x0045000F4240), (1000000, 0, 0x0000000F4240), (1000000, 127, 0x007F000F4240),
          (1000000, 128, 0x0080000F4240), (4194303, 127, 0x007F003FFFFF), (4194304, 127, 0x007F00400000),
          (2093, 108, 0x006C0000082D), (0xFFFFFFFF, 0xFFFF, 0xFFFFFFFFFFFF)] : List (Freq × Key × ReqWord)),
    decode .fallible x.2.2 = .periodForKeyFallible x.1 x.2.1 ∧
    decode .assertive x.2.2 = .periodForKeyAssertive x.1 x.2.1 ∧
    encode (.periodForKeyFallible x.1 x.2.1) = x.2.2 ∧ encode (.periodForKeyAssertive x.1 x.2.1) = x.2.2

/-- R68: two operands spell a request exactly when `F <= 2^32 - 1` and `K <= 65535`, and the request is
`enc(F, K)`. -/
def Obligations.SpelledRequestsAreInRange : Prop :=
  ∀ (f k : Nat) (q : ReqWord),
    spellRequest f k = some q ↔ f ≤ 2 ^ 32 - 1 ∧ k ≤ 65535 ∧ q.toNat = k * 2 ^ 32 + f

/-- R64: a record that fits its fields is packed in `OUT_W + 3` bits and comes back from them, with `ok` the top
bit, `cause` the next two and `period` the rest. -/
def Obligations.PackedRecordRoundTrip : Prop :=
  ∀ (outW : Nat) (r : Response), 1 ≤ outW → r.period < 2 ^ outW →
    (packRecord outW r).toNat = r.ok.toNat * 2 ^ (outW + 2) + r.cause.toNat * 2 ^ outW + r.period ∧
    unpackRecord outW (packRecord outW r) = r

/-! ### The configuration and the table -/

/-- R13: a configuration is well formed exactly when points (a) to (h) hold, and of a configuration that breaks
one of them the model gives no step and no meaning of an instruction. -/
def Obligations.IllFormedConfigurationIsRefused : Prop :=
  ∀ c : Config,
    (c.meetsR13 = true ↔
      1 ≤ c.scale ∧ c.expFrac.length = 12 ∧ c.expFrac[0]? = some c.scale ∧
      (∀ i ≤ 10, ∀ a b, c.expFrac[i]? = some a → c.expFrac[i + 1]? = some b → a ≤ b) ∧
      (∀ e ∈ c.expFrac, e ≤ 2 * c.scale) ∧ 1 ≤ c.baseFx ∧ 0 ≤ c.baseShift ∧ 1 ≤ c.workW ∧ 1 ≤ c.outW) ∧
    (c.meetsR13 = false → ∀ s : State, s.cfg = c →
      step s = .refused .illFormedConfiguration ∧ ∀ i, exec i s = .refused .illFormedConfiguration)

/-- R41, R42: every key's table index is one of 0 to 11, the read there answers the entry of the key's semitone,
and an index of 12 to 15, which no key forms, answers nothing (that a read there answers nothing is the model's
reading, log entry 16: R42 defines the read for 0 to 11 only). -/
def Obligations.TableReadFindsTheSemitone : Prop :=
  ∀ c : Config, c.wf = true →
    (∀ k : Nat, (tableIndex k).toNat = k % 12 ∧ (tableIndex k).toNat ≤ 11 ∧
      ∃ e, tableRead c (tableIndex k) = some e ∧ c.expFrac[k % 12]? = some e) ∧
    (∀ i : TableIndex, 12 ≤ i.toNat → tableRead c i = none)

/-- R25, R12, R10: the reference and the literal configurations are well formed; each reference entry is the nearest
whole number to `2^(i/12) * 1024`, with no tie (compared by twelfth powers), and is at least 1024, so that its
rounding error of less than one half is less than 0.5/1024 of it. -/
def Obligations.ReferenceTableIsNearest : Prop :=
  (∀ v, (Config.reference v).wf = true ∧ (Config.literal v).wf = true) ∧
  (∀ i ∈ List.range 12, ∀ e, referenceTable[i]? = some e →
    (2 * e - 1) ^ 12 < 2 ^ i * 2048 ^ 12 ∧ 2 ^ i * 2048 ^ 12 < (2 * e + 1) ^ 12 ∧ 1024 ≤ e)

/-- R26: `33488 / 4096` is below `F0 = 440 / 2^(69/12)`, and 33488 is the whole number nearest to `F0 * 4096`
(compared by twelfth powers). -/
def Obligations.ReferenceBaseIsNearest : Prop :=
  (Config.reference .fallible).baseFx = 33488 ∧ (Config.reference .fallible).baseShift = 12 ∧
  33488 ^ 12 * 2 ^ 69 < (440 * 4096) ^ 12 ∧ (2 * (440 * 4096)) ^ 12 < (2 * 33488 + 1) ^ 12 * 2 ^ 69

/-- R11: `F_MAX` is the safe ceiling: a frequency raises PRODUCT_OVERFLOW, whatever valid key it comes with,
exactly when it is above `F_MAX`, which is 4194303 in the reference configuration. -/
def Obligations.SafeCeilingIsExact : Prop :=
  (∀ c : Config, c.wf = true → ∀ f k : Nat, k ≤ 127 →
    (convert c f k = some (.err .productOverflow) ↔ c.fMax < f)) ∧
  ∀ v, (Config.reference v).fMax = 4194303

/-! ### The pipeline -/

/-- R80: under a well-formed configuration every pair of operands has an outcome, and a period that is
answered fits the output width. -/
def Obligations.ConvertIsTotal : Prop :=
  ∀ c : Config, c.wf = true → ∀ f k : Nat,
    ∃ r, convert c f k = some r ∧ ∀ p, r = .ok p → p < 2 ^ c.outW

/-- R121, R122: the cause codes, and that the first failing check of the step order decides. -/
def Obligations.FirstFailingCheckDecides : Prop :=
  (causeNone = 0 ∧ causeCode .keyRange = 1 ∧ causeCode .productOverflow = 2 ∧ causeCode .outputOverflow = 3) ∧
  ∀ (c : Config) (f k : Nat), c.wf = true →
    (127 < k → convert c f k = some (.err .keyRange)) ∧
    (k ≤ 127 → 2 ^ c.workW - 1 < f * c.scale → convert c f k = some (.err .productOverflow)) ∧
    (k ≤ 127 → f * c.scale ≤ 2 ^ c.workW - 1 → ∀ p, unguardedPeriod c f k = some p →
      convert c f k = some (if 2 ^ c.outW - 1 < p then .err .outputOverflow else .ok p))

/-- R88: the denominator is never 0 when step 6 is reached. -/
def Obligations.DenominatorIsPositive : Prop :=
  ∀ c : Config, c.wf = true → ∀ k e : Nat, tableRead c (tableIndex k) = some e →
    c.scale ≤ e ∧ 1 ≤ denominator c e (octave k)

/-- R93: the rounded quotient is `floor(A/D + 1/2)` over the rationals; a tie goes to the larger number; and
the two examples of the reference configuration, the first with `A/D` exactly one half. -/
def Obligations.RoundingIsHalfUp : Prop :=
  (∀ a d : Nat, 1 ≤ d → (roundedQuotient a d : Int) = ⌊(a : Rat) / (d : Rat) + 1 / 2⌋) ∧
  (∀ a d n : Nat, 1 ≤ d → 2 * a = 2 * (d * n) + d → roundedQuotient a d = n + 1) ∧
  (∀ v, 2 * scaledNumerator (Config.reference v) 2093 =
      denominator (Config.reference v) (referenceTable.getD 0 0) (octave 108) ∧
    convert (Config.reference v) 2093 108 = some (.ok 1) ∧ convert (Config.reference v) 2092 108 = some (.ok 0))

/-- R94: the quotient-and-remainder form is exactly the rounding, and its test forms nothing wider than `2*D`. -/
def Obligations.RemainderFormAgrees : Prop :=
  ∀ a d : Nat, 1 ≤ d → roundedByRemainder a d = roundedQuotient a d ∧ 2 * (a % d) < 2 * d

/-- R95: wherever `o <= BASE_SHIFT`, `A/D` is the ratio of the octave-offset form (cross-multiplied), and that form
gives the same period; it holds for every valid key when `BASE_SHIFT >= 10`, as in the reference configuration. -/
def Obligations.OctaveOffsetFormAgrees : Prop :=
  (∀ c : Config, c.wf = true → ∀ f k e : Nat, tableRead c (tableIndex k) = some e → octave k ≤ c.baseShift →
    scaledNumerator c f * (c.baseFx * e) =
      product c f * 2 ^ (c.baseShift - octave k) * denominator c e (octave k) ∧
    octaveOffsetPeriod c e f k = periodFromEntry c e f k) ∧
  (∀ c : Config, 10 ≤ c.baseShift → ∀ k ≤ 127, octave k ≤ c.baseShift) ∧
  ∀ v, 10 ≤ (Config.reference v).baseShift

/-- R96: bounds on the values `Convert` reaches, in general and in the reference configuration. -/
def Obligations.DatapathRanges : Prop :=
  (∀ c : Config, c.wf = true → ∀ f k e : Nat, k ≤ 127 → productOverflows c f = false →
    tableRead c (tableIndex k) = some e →
    product c f ≤ 2 ^ c.workW - 1 ∧ scaledNumerator c f ≤ (2 ^ c.workW - 1) * 2 ^ c.baseShift ∧
    denominator c e (octave k) ≤ c.baseFx * (2 * c.scale) * 2 ^ 10) ∧
  (∀ v f k e, k ≤ 127 → productOverflows (Config.reference v) f = false →
    tableRead (Config.reference v) (tableIndex k) = some e →
    scaledNumerator (Config.reference v) f < 2 ^ 44 ∧
    denominator (Config.reference v) e (octave k) ≤ 66285879296) ∧
  66285879296 < 2 ^ 36

/-- R99: with the frequency fixed, the period of step 6 never rises with the key; with the key fixed, it never
falls as the frequency grows; the denominator never falls as the key rises; and a key that overflows the output
makes every smaller key do so. -/
def Obligations.PeriodNeverRisesWithKey : Prop :=
  ∀ c : Config, c.wf = true →
    (∀ f k j : Nat, j ≤ k → k ≤ 127 → ∃ p p', unguardedPeriod c f k = some p ∧ unguardedPeriod c f j = some p' ∧
      p ≤ p') ∧
    (∀ f g k : Nat, f ≤ g → k ≤ 127 → ∃ p p', unguardedPeriod c f k = some p ∧ unguardedPeriod c g k = some p' ∧
      p ≤ p') ∧
    (∀ k j e e' : Nat, j ≤ k → tableRead c (tableIndex j) = some e → tableRead c (tableIndex k) = some e' →
      denominator c e (octave j) ≤ denominator c e' (octave k)) ∧
    (∀ f k j : Nat, j ≤ k → convert c f k = some (.err .outputOverflow) →
      convert c f j = some (.err .outputOverflow))

/-- R98: frequency 0 gives `N = 0`, `A = 0` and period 0 for every valid key, in both contracts; so do the two small frequencies of
the rule in the reference configuration. -/
def Obligations.ZeroFrequencyGivesZeroPeriod : Prop :=
  (∀ c : Config, c.wf = true → product c 0 = 0 ∧ scaledNumerator c 0 = 0 ∧
    ∀ k ≤ 127, unguardedPeriod c 0 k = some 0 ∧ convert c 0 k = some (.ok 0)) ∧
  (∀ v, convert (Config.reference v) 1 127 = some (.ok 0) ∧ convert (Config.reference v) 4 0 = some (.ok 0))

/-- R100: in the reference configuration no valid request has a period above 513016, which is reached at
`F = F_MAX`, `K = 0`; an ASSERTIVE instance never raises OUTPUT_OVERFLOW. -/
def Obligations.ReferenceLargestPeriod : Prop :=
  (∀ f k : Nat, convert (Config.reference .assertive) f k ≠ some (.err .outputOverflow)) ∧
  (∀ f k p : Nat, convert (Config.reference .assertive) f k = some (.ok p) → p ≤ 513016) ∧
  convert (Config.reference .assertive) 4194303 0 = some (.ok 513016)

/-- R100 and spec/95_test_vectors.md 3.1: for each key of the FALLIBLE reference instance, the largest frequency
whose period fits 16 bits; every larger one is an error. -/
def Obligations.FallibleFitLimits : Prop :=
  ∀ f k : Nat, k ≤ 127 →
    ((∃ p, convert (Config.reference .fallible) f k = some (.ok p)) ↔
      f ≤ ([535803, 567721, 601209, 637313, 674987, 715277, 757660, 802659, 850274, 901029, 954923, 1011434,
            1071607, 1135443, 1202419, 1274627, 1349974, 1430554, 1515320, 1605318, 1700549, 1802059, 1909847,
            2022869, 2143215, 2270887, 2404838, 2549254, 2699949, 2861109, 3030640, 3210637, 3401099, 3604118,
            3819695, 4045738] : List Nat).getD k 4194303)

/-- Conflict C3 and spec/95_test_vectors.md L1.7: at 1 MHz every key from 12 to 127 has a period whose implied
frequency is within 10 cents of the ideal one, and it is outside 5 cents for exactly the eight keys named. A
difference of `n` cents is compared as a ratio whose 1200th power is `2^n`. -/
def Obligations.CentBandAtOneMegahertz : Prop :=
  ∀ k ∈ (List.range 116).map (· + 12), ∃ p, convert (Config.reference .fallible) 1000000 k = some (.ok p) ∧
    (1000000 ^ 1200 * 2 ^ 6900 ≤ 2 ^ 10 * ((p * 440) ^ 1200 * 2 ^ (100 * k)) ∧
      (p * 440) ^ 1200 * 2 ^ (100 * k) ≤ 2 ^ 10 * (1000000 ^ 1200 * 2 ^ 6900)) ∧
    ((1000000 ^ 1200 * 2 ^ 6900 ≤ 2 ^ 5 * ((p * 440) ^ 1200 * 2 ^ (100 * k)) ∧
        (p * 440) ^ 1200 * 2 ^ (100 * k) ≤ 2 ^ 5 * (1000000 ^ 1200 * 2 ^ 6900)) ↔
      k ∉ [116, 119, 120, 122, 123, 125, 126, 127])

/-- spec/95_test_vectors.md section 1: the source's own examples, and the one that the literal configuration gets
wrong (conflict C1). -/
def Obligations.SourceVectors : Prop :=
  (∀ v, convert (Config.reference v) 1000000 69 = some (.ok 2273) ∧
    convert (Config.reference v) 1000000 127 = some (.ok 80) ∧
    convert (Config.reference v) 1000000 128 = some (.err .keyRange) ∧
    convert (Config.reference v) 4194304 127 = some (.err .productOverflow) ∧
    convert (Config.reference v) 4194303 127 = some (.ok 334) ∧
    convert (Config.literal v) 1000000 69 = some (.ok 18583)) ∧
  convert (Config.reference .fallible) 1000000 0 = some (.err .outputOverflow) ∧
  convert (Config.reference .assertive) 1000000 0 = some (.ok 122312)

/-! ### The two instructions -/

/-- R90: PERIOD_FOR_KEY in a FALLIBLE instance with nothing in flight completes on every pair of operands. It
delivers one record: the period of R80 to R87 where every check passes, else the absent result with the cause
of the first check that fails. Nothing else of the state changes. In the reference configuration at 1 MHz the keys
whose period does not fit are 0 to 10; key 69 has the period 2273 and key 0 would have 122312. -/
def Obligations.FallibleDeliversOneRecord : Prop :=
  (∀ (s : State) (f : Freq) (k : Key) (d p : Nat),
    s.cfg.wf = true → s.cfg.variant = .fallible → s.slot = .empty →
    d = s.cfg.baseFx * s.cfg.expFrac.getD (k.toNat % 12) 0 * 2 ^ (k.toNat / 12) →
    p = (2 * (f.toNat * s.cfg.scale * 2 ^ s.cfg.baseShift) + d) / (2 * d) →
    exec (.periodForKeyFallible f k) s = .next { s with
      delivered := s.delivered ++
        [if 127 < k.toNat then { ok := 0, cause := 1, period := 0 }
         else if 2 ^ s.cfg.workW - 1 < f.toNat * s.cfg.scale then { ok := 0, cause := 2, period := 0 }
         else if 2 ^ s.cfg.outW - 1 < p then { ok := 0, cause := 3, period := 0 }
         else { ok := 1, cause := 0, period := p }] }) ∧
  (∀ k : Nat, convert (Config.reference .fallible) 1000000 k = some (.err .outputOverflow) ↔ k ≤ 10) ∧
  convert (Config.reference .fallible) 1000000 69 = some (.ok 2273) ∧
  unguardedPeriod (Config.reference .fallible) 1000000 0 = some 122312

/-- R91: PERIOD_FOR_KEY in an ASSERTIVE instance that is not faulted and has nothing in flight, on operands
that pass the three checks, delivers the period; nothing else of the state changes. -/
def Obligations.AssertiveDeliversThePeriod : Prop :=
  ∀ (s : State) (f : Freq) (k : Key) (d p : Nat),
    s.cfg.wf = true → s.cfg.variant = .assertive → s.faulted = 0 → s.slot = .empty →
    d = s.cfg.baseFx * s.cfg.expFrac.getD (k.toNat % 12) 0 * 2 ^ (k.toNat / 12) →
    p = (2 * (f.toNat * s.cfg.scale * 2 ^ s.cfg.baseShift) + d) / (2 * d) →
    k.toNat ≤ 127 → f.toNat * s.cfg.scale ≤ 2 ^ s.cfg.workW - 1 → p ≤ 2 ^ s.cfg.outW - 1 →
    exec (.periodForKeyAssertive f k) s =
      .next { s with delivered := s.delivered ++ [{ ok := 1, cause := 0, period := p }] }

/-- R91, R124: where a check fails, PERIOD_FOR_KEY in an ASSERTIVE instance sets `FAULTED` and writes the cause of
the first check that fails into `FAULT_CAUSE`, and delivers nothing; nothing else of the state changes. -/
def Obligations.AssertiveFaultsOnAnError : Prop :=
  ∀ (s : State) (f : Freq) (k : Key) (d p : Nat),
    s.cfg.wf = true → s.cfg.variant = .assertive → s.faulted = 0 → s.slot = .empty →
    d = s.cfg.baseFx * s.cfg.expFrac.getD (k.toNat % 12) 0 * 2 ^ (k.toNat / 12) →
    p = (2 * (f.toNat * s.cfg.scale * 2 ^ s.cfg.baseShift) + d) / (2 * d) →
    (127 < k.toNat ∨ 2 ^ s.cfg.workW - 1 < f.toNat * s.cfg.scale ∨ 2 ^ s.cfg.outW - 1 < p) →
    exec (.periodForKeyAssertive f k) s = .next { s with
      faulted := 1
      faultCause :=
        if 127 < k.toNat then 1 else if 2 ^ s.cfg.workW - 1 < f.toNat * s.cfg.scale then 2 else 3 }

/-- R123: an error in a FALLIBLE instance raises no fault: one record with `ok = 0`, the cause and period 0 is
delivered, the latches read as before, and the block is ready for the next request. -/
def Obligations.FallibleErrorLeavesNoTrace : Prop :=
  ∀ (s : State) (f : Freq) (k : Key) (c : Cause),
    s.cfg.wf = true → s.cfg.variant = .fallible → s.slot = .empty →
    convert s.cfg f.toNat k.toNat = some (.err c) →
    ∃ t, exec (.periodForKeyFallible f k) s = .next t ∧
      t.delivered = s.delivered ++ [{ ok := 0, cause := causeCode c, period := 0 }] ∧
      t.faultState = s.faultState ∧ t.faulted = s.faulted ∧ t.faultCause = s.faultCause ∧ t.ready = true ∧
      t.requests = s.requests

/-- A request that the block cannot accept, because it is faulted or has a request in flight, is held: the
instruction leaves the whole state as it is (R125, R29; log entries 5 and 20). -/
def Obligations.UnacceptedRequestIsHeld : Prop :=
  ∀ (i : Instr) (s : State), s.cfg.wf = true → i.wf s.cfg.variant = true →
    (s.readFaulted = 1 ∨ s.slot ≠ .empty) → exec i s = .next s

/-- The row of the contract that an instance does not implement has no meaning there (R63; log entry 9), and no
step ever runs one. -/
def Obligations.OtherContractHasNoMeaning : Prop :=
  (∀ (i : Instr) (s : State), s.cfg.wf = true → i.wf s.cfg.variant = false →
    exec i s = .refused .otherContract) ∧
  ∀ s : State, step s ≠ .refused .otherContract

/-- R30: in two blocks with one configuration, not faulted and with nothing in flight, one request has one
outcome: the same record delivered, or the same fault. -/
def Obligations.OutcomeDependsOnRequestOnly : Prop :=
  ∀ (i : Instr) (s s' : State), s.cfg = s'.cfg → s.cfg.wf = true → i.wf s.cfg.variant = true →
    s.readFaulted = 0 → s'.readFaulted = 0 → s.slot = .empty → s'.slot = .empty →
    ∃ t t' out, exec i s = .next t ∧ exec i s' = .next t' ∧
      t.delivered = s.delivered ++ out ∧ t'.delivered = s'.delivered ++ out ∧
      t.readFaulted = t'.readFaulted ∧
      (t.readFaulted = 1 → t.readFaultCause = t'.readFaultCause ∧ out = []) ∧
      (t.readFaulted = 0 → out.length = 1)

/-! ### The step, faults and reset -/

/-- A request event in a block that is ready runs the decoded instruction: the step is `exec` of it, on the
state that has taken the event and the request (R92, R65; the queue and the list of events are log entry 4). -/
def Obligations.StepRunsTheDecodedRequest : Prop :=
  ∀ (s : State) (q : ReqWord) (rest : List ReqWord),
    s.cfg.wf = true → s.nextEvent = .request → s.requests = q :: rest → s.readFaulted = 0 → s.slot = .empty →
    step s = exec (decode s.cfg.variant q)
      { s with requests := rest, env := s.env.tail, freeCount := s.freeCount + 1 }

/-- A request event in a block that is not ready, or with no request waiting, changes nothing of the block and
withdraws no request (R125, R134, R29, R65.1). These are the model's readings: that the held request waits in its
queue and the step goes on is log entry 5, and that a request event with a request in flight is held too is log
entry 20. -/
def Obligations.WaitingRequestWaitsOn : Prop :=
  ∀ s : State, s.cfg.wf = true → s.nextEvent = .request →
    (s.readFaulted = 1 ∨ s.slot ≠ .empty ∨ s.requests = []) →
    step s = .next { s with env := s.env.tail, freeCount := s.freeCount + 1 }

/-- R141: whatever the state, a reset event, or an edge with `rst = 1`, leaves `FAULTED = 0`, `FAULT_CAUSE = 0`,
nothing in flight and no response presented; it changes no constant, answers no request and withdraws none (that
requests not accepted wait on is log entry 14). -/
def Obligations.ResetFromAnyState : Prop :=
  ∀ s : State, s.cfg.wf = true → (s.nextEvent = .reset ∨ ∃ p, s.nextEvent = .edge p ∧ p.rst = 1) →
    step s = .next { s with
      faulted := 0, faultCause := 0, slot := .empty, env := s.env.tail, freeCount := s.freeCount + 1 } ∧
    ∀ t, step s = .next t → t.faultState = (0, 0) ∧ ∀ rst, rspValid rst t = 0

/-- R126: at the edge where a fault would be raised, a reset wins: neither latch is set, the request in flight is
dropped and no response is ever delivered for it. -/
def Obligations.ResetWinsOverFault : Prop :=
  ∀ (s t : State) (p p' : PortIn), s.readFaulted = 0 → p.rst = 0 → clockEdge p s = .next t → t.readFaulted = 1 →
    p'.rst = 1 →
    ∃ u, clockEdge p' s = .next u ∧ u.readFaulted = 0 ∧ u.readFaultCause = 0 ∧ u.slot = .empty ∧
      u.delivered = s.delivered

/-- R142: the state between power-up and the first reset is unspecified (the free values of log entry 13), and one
reset makes it the state of R141, whatever it was. -/
def Obligations.ResetAfterPowerUp : Prop :=
  ∀ (c : Config) (n : Nat), c.wf = true →
    step { State.powerUp c n with env := [.reset] } = .next { State.resetOf c with freeCount := n + 1 }

/-- R125: while `FAULTED = 1`, a run of any length without a reset changes neither latch, accepts no request
and delivers no response. These are the model's readings: that such a run goes on, its requests waiting where they
were, is log entry 5, and that its slot stays as it is too, were anything in it, is log entry 19. -/
def Obligations.FaultLastsUntilReset : Prop :=
  ∀ (n : Nat) (s : State), s.cfg.wf = true → s.readFaulted = 1 → (∀ e ∈ s.env, noReset e) →
    ∃ t, runSteps n s = .next t ∧ t.readFaulted = 1 ∧ t.readFaultCause = s.readFaultCause ∧
      t.requests = s.requests ∧ t.delivered = s.delivered ∧ t.slot = s.slot ∧ ∀ rst, rspValid rst t = 0

/-- R125: a request presented again after a reset has the outcome it had before. -/
def Obligations.RetryAfterResetChangesNothing : Prop :=
  ∀ (i : Instr) (s t : State), s.Inv → s.readFaulted = 0 → s.slot = .empty → exec i s = .next t →
    ∃ u out, exec i t.resetEdge = .next u ∧ t.delivered = s.delivered ++ out ∧ u.delivered = t.delivered ++ out ∧
      u.faultState = t.faultState

/-- R27, R28: in a FALLIBLE instance the ports `faulted` and `fault_cause` are 0 in every state. -/
def Obligations.FallibleLatchesReadZero : Prop :=
  ∀ (s : State) (rst : Bit), s.cfg.variant = .fallible →
    (outputs rst s).faulted = 0 ∧ (outputs rst s).faultCause = 0

/-- R27: `FAULTED` as read changes in a step only two ways. It becomes 1 when an ASSERTIVE request, the oldest one
waiting or the one in flight, comes to a fault, whose cause `FAULT_CAUSE` then holds; it becomes 0 by a reset. -/
def Obligations.FaultLatchIsSetAndClearedOnlySo : Prop :=
  ∀ s t : State, step s = .next t →
    (s.readFaulted = 0 → t.readFaulted = 1 → s.cfg.variant = .assertive ∧
      ∃ q c, (s.requests.head? = some q ∨ ∃ left, s.slot = .waiting q left) ∧
        convert s.cfg (freqField q).toNat (keyField q).toNat = some (.err c) ∧
        t.faultCause = causeCode c ∧ t.slot = .empty ∧ t.delivered = s.delivered) ∧
    (s.readFaulted = 1 → t.readFaulted = 0 → ¬ noReset s.nextEvent)

/-! ### Runs of requests -/

/-- R65.5, R30: a FALLIBLE instance with nothing in flight answers a queue of requests one record each, in the
order of the queue, each record that of its own request; nothing else changes (the queue is log entry 4). -/
def Obligations.FallibleQueueIsAnsweredInOrder : Prop :=
  ∀ (qs rest : List ReqWord) (s : State),
    s.cfg.wf = true → s.cfg.variant = .fallible → s.slot = .empty → s.env = [] → s.requests = qs ++ rest →
    ∃ rs, List.Forall₂ (fun q r =>
        instrVerdict s.cfg (.periodForKeyFallible (freqField q) (keyField q)) = some (.response r)) qs rs ∧
      runSteps qs.length s =
        .next { s with requests := rest, delivered := s.delivered ++ rs, freeCount := s.freeCount + qs.length }

/-- R131, R30: in a FALLIBLE instance the arbiter's order changes no response. Each request word has one answer,
which is what its own conversion comes to, and in whichever of two orders the same requests are offered, each is
answered with it, in its place, so that the same records are delivered in two orders; nothing else changes (the
queue is log entry 4). -/
def Obligations.ArbiterOrderChangesNoResponse : Prop :=
  ∀ (qs qs' : List ReqWord) (s : State), qs.Perm qs' →
    s.cfg.wf = true → s.cfg.variant = .fallible → s.slot = .empty → s.env = [] →
    ∃ answer : ReqWord → Response,
      (∀ q ∈ qs, instrVerdict s.cfg (decode s.cfg.variant q) = some (.response (answer q))) ∧
      (qs.map answer).Perm (qs'.map answer) ∧
      runSteps qs.length { s with requests := qs } =
        .next { s with
          requests := [], delivered := s.delivered ++ qs.map answer, freeCount := s.freeCount + qs.length } ∧
      runSteps qs'.length { s with requests := qs' } =
        .next { s with
          requests := [], delivered := s.delivered ++ qs'.map answer, freeCount := s.freeCount + qs'.length }

/-- R124, R125: an ASSERTIVE instance answers the requests before the first one in error, in order, then faults
with that request's cause; every later request waits, however many steps follow (log entries 4 and 5). -/
def Obligations.AssertiveQueueStopsAtFirstError : Prop :=
  ∀ (good rest : List ReqWord) (bad : ReqWord) (c : Cause) (s : State) (n : Nat),
    s.cfg.wf = true → s.cfg.variant = .assertive → s.faulted = 0 → s.slot = .empty → s.env = [] →
    s.requests = good ++ bad :: rest →
    (∀ q ∈ good, wordMeetsPreconditions s.cfg q) →
    convert s.cfg (freqField bad).toNat (keyField bad).toNat = some (.err c) →
    ∃ rs, List.Forall₂ (fun q r => ∃ p, r = { ok := 1, cause := 0, period := p } ∧
        convert s.cfg (freqField q).toNat (keyField q).toNat = some (.ok p)) good rs ∧
      runSteps (good.length + 1 + n) s =
        .next { s with
          faulted := 1, faultCause := causeCode c, requests := rest, delivered := s.delivered ++ rs,
          freeCount := s.freeCount + (good.length + 1 + n) }

/-- R144: while every request in sight keeps the requester's preconditions, no step raises a fault, and what is
in sight after the step keeps them too. -/
def Obligations.PreconditionsKeepTheBlockRunning : Prop :=
  ∀ s t : State, s.readFaulted = 0 → s.requestersKeepPreconditions → step s = .next t →
    t.readFaulted = 0 ∧ t.requestersKeepPreconditions

/-! ### The ports -/

/-- R140, R65.1: `req_ready` is 1 exactly when `FAULTED = 0`, nothing is in flight and `rst = 0`; while `rst = 1`
both `req_ready` and `rsp_valid` are 0; and every edge with `rst = 1` is a reset. -/
def Obligations.ReadyAndResetAtThePorts : Prop :=
  (∀ (s : State) (rst : Bit), (outputs rst s).reqReady = 1 ↔ s.readFaulted = 0 ∧ s.slot = .empty ∧ rst = 0) ∧
  (∀ s : State, (outputs 1 s).reqReady = 0 ∧ (outputs 1 s).rspValid = 0) ∧
  (∀ (s : State) (p : PortIn), p.rst = 1 → clockEdge p s = .next s.resetEdge)

/-- R65: at an edge outside reset, a request is accepted where `req_valid` and `req_ready` are 1, the word at the
ports going into the in-flight slot; a block with nothing in flight that does not accept there stays so. Where
`rsp_valid` is 1 the ports carry the three fields of the record presented (R64). Where `rsp_ready` is 1 too,
exactly that record is delivered and the slot empties; else the ports show it unchanged in the next cycle outside
reset. Nothing is delivered at any other edge. -/
def Obligations.HandshakeAtAnEdge : Prop :=
  ∀ (s : State) (p : PortIn) (es : List Event),
    s.cfg.wf = true → s.env = .edge p :: es → p.rst = 0 →
    ∃ t, step s = .next t ∧ t.env = es ∧
      (acceptsAt p s → t.slot = .waiting (portWord p) s.cfg.latency ∧ t.delivered = s.delivered) ∧
      (s.slot = .empty → ¬ acceptsAt p s → t.slot = .empty) ∧
      (deliversAt p s → ∃ r, s.slot = .presenting r ∧ portsCarry (outputs p.rst s) r ∧
        t.slot = .empty ∧ t.delivered = s.delivered ++ [r]) ∧
      ((outputs p.rst s).rspValid = 1 → p.rspReady = 0 → ∃ r, s.slot = .presenting r ∧
        portsCarry (outputs p.rst s) r ∧ t.slot = .presenting r ∧ portsCarry (outputs 0 t) r) ∧
      (¬ deliversAt p s → t.delivered = s.delivered)

/-- R147, R65.3, R65.4: a request in flight reaches its response or its fault within the edges left to it, whatever
else the requester does, as long as no edge is a reset (the edge at which it does is log entry 7). The response
presented is the one its own word comes to; the fault leaves that word's cause in `FAULT_CAUSE` and the slot empty,
and delivers nothing. -/
def Obligations.RequestInFlightFinishes : Prop :=
  ∀ (ps : List PortIn) (es : List Event) (s : State) (q : ReqWord),
    s.cfg.wf = true → s.readFaulted = 0 → 1 ≤ ps.length → s.slot = .waiting q ps.length →
    s.env = ps.map Event.edge ++ es → (∀ p ∈ ps, p.rst = 0) →
    ∃ t, runSteps ps.length s = .next t ∧ t.env = es ∧ t.delivered = s.delivered ∧ t.requests = s.requests ∧
      ((∃ r, instrVerdict s.cfg (decode s.cfg.variant q) = some (.response r) ∧
          t.readFaulted = 0 ∧ t.slot = .presenting r) ∨
        (∃ c, instrVerdict s.cfg (decode s.cfg.variant q) = some (.fault c) ∧
          t.readFaulted = 1 ∧ t.readFaultCause = causeCode c ∧ t.slot = .empty))

/-- The clocked block does what the transaction-level step does (R65, R92): accepting a request at one edge,
waiting `LATENCY` edges and taking the response leaves the state that one atomic step leaves, but for the count of
steps, whatever the request ports show after the accepting edge (the edges counted are log entry 7). -/
def Obligations.PortsRefineTheTransaction : Prop :=
  ∀ (s : State) (first last : PortIn) (ps : List PortIn) (es : List Event),
    s.cfg.wf = true → s.readFaulted = 0 → s.slot = .empty →
    first.rst = 0 → first.reqValid = 1 → ps.length = s.cfg.latency → (∀ p ∈ ps, p.rst = 0) →
    last.rst = 0 → last.rspReady = 1 →
    ∃ t, step { s with env := .request :: es, requests := portWord first :: s.requests } = .next t ∧
      runSteps (s.cfg.latency + 2)
          { s with env := .edge first :: (ps.map Event.edge ++ .edge last :: es) } =
        .next { t with freeCount := s.freeCount + s.cfg.latency + 2 }

/-- R146(a): a request raised at the ports and kept there until it is accepted is accepted as it was raised. -/
def Obligations.HeldRequestIsAcceptedUnchanged : Prop :=
  ∀ (ps : List PortIn) (first last : PortIn) (s t u : State),
    keepsRequests s (first :: ps ++ [last]) → acceptsNowhere s (first :: ps) → first.reqValid = 1 →
    (first :: ps).foldlM (fun s p => match clockEdge p s with | .next t => some t | _ => none) s = some t →
    acceptsAt last t → clockEdge last t = .next u →
    u.slot = .waiting (portWord first) t.cfg.latency

/-- R60, R141: whatever the unspecified response fields hold (the free values of log entry 6), the period shown
fits the port. -/
def Obligations.ShownPeriodFitsThePort : Prop :=
  ∀ (s : State) (rst : Bit), s.Inv → (outputs rst s).rspPeriod < 2 ^ s.cfg.outW

/-! ### Whole-machine rules -/

/-- A block with a well-formed configuration always takes a step: no request, no data and no event ends a run
(R80, R92). That a request event while `FAULTED = 1`, for which R92 gives no step, answers a next state too is the
model's reading, log entry 5; the same with a request in flight is log entry 20. -/
def Obligations.WellFormedBlockAlwaysSteps : Prop :=
  ∀ s : State, s.cfg.wf = true → ∃ t, step s = .next t

/-- R21, R24 to R26, R31: no step changes a build parameter or a constant. -/
def Obligations.ConfigurationNeverChanges : Prop :=
  ∀ s t : State, step s = .next t → t.cfg = s.cfg

/-- R65.5: a step delivers at most one response, and a step that raises a fault delivers none. -/
def Obligations.AtMostOneResponsePerStep : Prop :=
  ∀ s t : State, step s = .next t →
    (t.delivered = s.delivered ∨ ∃ r, t.delivered = s.delivered ++ [r] ∧ t.slot = .empty) ∧
    (s.readFaulted = 0 → t.readFaulted = 1 → t.delivered = s.delivered)

/-- Every step keeps the invariant of a block that was reset (R28, R29, R64, R124, R142). -/
def Obligations.StepKeepsTheInvariant : Prop :=
  ∀ s t : State, s.Inv → step s = .next t → t.Inv

/-- R141, R31: the state after reset, in every build, has the invariant; and the build of log entries 1 and 2 is a
well-formed one. -/
def Obligations.ResetHasTheInvariant : Prop :=
  (∀ c : Config, (State.resetOf c).Inv) ∧ State.reset.Inv ∧ State.reset.cfg.wf = true

/-! ### The response ports -/

/-- R65.3, R64, R140: `rsp_valid` is 1 exactly while a response is in the slot, `FAULTED = 0` and `rst = 0`, and
`rsp_ok`, `rsp_cause` and `rsp_period` then carry that response's three fields. -/
def Obligations.ResponsePortsCarryTheRecord : Prop :=
  ∀ (s : State) (rst : Bit),
    ((outputs rst s).rspValid = 1 ↔ rst = 0 ∧ s.readFaulted = 0 ∧ ∃ r, s.slot = .presenting r) ∧
    (∀ r, s.slot = .presenting r → (outputs rst s).rspValid = 1 → portsCarry (outputs rst s) r)
end

