-- ==== Sys2Proof/Laws/Convert.lean ====
section
/-! SUPPORT. What a well-formed configuration gives the pipeline, and the pipeline's steps as equations. -/

namespace Sys2Proof

/-- The checks of R13 and the bound on `LATENCY`, as facts about numbers. -/
structure Config.Facts (c : Config) : Prop where
  scale_pos : 1 ≤ c.scale
  length_eq : c.expFrac.length = 12
  first_eq : c.expFrac[0]? = some c.scale
  rises : ∀ i < 11, c.expFrac.getD i 0 ≤ c.expFrac.getD (i + 1) 0
  bounded : ∀ e ∈ c.expFrac, e ≤ 2 * c.scale
  baseFx_pos : 1 ≤ c.baseFx
  workW_pos : 1 ≤ c.workW
  outW_pos : 1 ≤ c.outW
  latency_pos : 1 ≤ c.latency

/-- A configuration is well formed exactly when these facts hold. -/
theorem Config.wf_iff_facts (c : Config) : c.wf = true ↔ c.Facts := by
  constructor
  · intro h
    simp only [Config.wf, Config.meetsR13, Config.scalePositive, Config.tableHasTwelve, Config.tableStartsAtScale,
      Config.tableMonotone, Config.tableBounded, Config.baseFxPositive, Config.baseShiftNatural,
      Config.widthsPositive, Config.latencyPositive, Bool.and_eq_true, decide_eq_true_eq, List.all_eq_true,
      List.mem_range] at h
    obtain ⟨⟨⟨⟨⟨⟨⟨⟨ha, hb⟩, hc⟩, hd⟩, he⟩, hf⟩, -⟩, hh⟩, hl⟩ := h
    exact ⟨ha, hb, hc, hd, he, hf, hh.1, hh.2, hl⟩
  · intro h
    simp only [Config.wf, Config.meetsR13, Config.scalePositive, Config.tableHasTwelve, Config.tableStartsAtScale,
      Config.tableMonotone, Config.tableBounded, Config.baseFxPositive, Config.baseShiftNatural,
      Config.widthsPositive, Config.latencyPositive, Bool.and_eq_true, decide_eq_true_eq, List.all_eq_true,
      List.mem_range]
    exact ⟨⟨⟨⟨⟨⟨⟨⟨h.scale_pos, h.length_eq⟩, h.first_eq⟩, h.rises⟩, h.bounded⟩, h.baseFx_pos⟩, Nat.zero_le _⟩,
      h.workW_pos, h.outW_pos⟩, h.latency_pos⟩

namespace Machine

/-- The 4-bit index is the semitone itself: 0 to 11 fits (R41). -/
theorem tableIndex_toNat (k : Nat) : (tableIndex k).toNat = k % 12 := by
  have h : k % 12 < 12 := Nat.mod_lt _ (by decide)
  simp only [tableIndex, semitone, semitones, BitVec.toNat_ofNat]
  omega

theorem keyOutOfRange_eq (k : Nat) : keyOutOfRange k = decide (127 < k) := rfl

theorem productOverflows_eq (c : Config) (f : Nat) :
    productOverflows c f = decide (2 ^ c.workW - 1 < f * c.scale) := rfl

/-- The period of step 6, written out (R84 to R86). -/
theorem periodFromEntry_eq (c : Config) (e f k : Nat) :
    periodFromEntry c e f k =
      (2 * (f * c.scale * 2 ^ c.baseShift) + c.baseFx * e * 2 ^ (k / 12)) /
        (2 * (c.baseFx * e * 2 ^ (k / 12))) := rfl

/-- A narrowing that succeeds gives a period that fits the output width (R87). -/
theorem narrow_ok {c : Config} {p p' : Nat} (h : narrow c p = .ok p') : p' = p ∧ p ≤ 2 ^ c.outW - 1 := by
  unfold narrow outputOverflows at h
  split at h
  · cases h
  · rename_i hp
    cases h
    exact ⟨rfl, by simpa using hp⟩

/-- A request of the FALLIBLE row never comes to a fault. -/
theorem fallibleVerdict_response (r : Conversion) : ∃ x, fallibleVerdict r = .response x := by
  cases r <;> exact ⟨_, rfl⟩

end Machine

end Sys2Proof
end

