-- ==== Sys2Proof/Laws/Decode.lean ====
section
/-! SUPPORT. The lengths of a request, cited by name (spec/30_encoding.md R67). -/

namespace Sys2Proof

/-- Forty-eight bits are the request word of their number. -/
theorem requestBits_of_lt {w : Nat} (h : w < 2 ^ 48) : requestBits 48 w = .ok (BitVec.ofNat 48 w) := by
  simp only [requestBits, ne_eq, not_true_eq_false, if_false, if_neg (Nat.not_le.mpr h)]

/-- Nothing else is a request. -/
theorem requestBits_eq_ok {nbits w : Nat} {q : ReqWord} :
    requestBits nbits w = .ok q ↔ nbits = 48 ∧ w < 2 ^ 48 ∧ q = BitVec.ofNat 48 w := by
  constructor
  · intro h
    unfold requestBits at h
    split at h
    · cases h
    · split at h
      · cases h
      · cases h
        exact ⟨not_not.mp ‹_›, Nat.not_le.mp ‹_›, rfl⟩
  · rintro ⟨rfl, hw, rfl⟩
    exact requestBits_of_lt hw

/-- The decoder reads an instruction from exactly the strings that are requests. -/
theorem decodeBits_eq_ok {v : Variant} {nbits w : Nat} {i : Instr} :
    decodeBits v nbits w = .ok i ↔ nbits = 48 ∧ w < 2 ^ 48 ∧ i = decode v (BitVec.ofNat 48 w) := by
  unfold decodeBits
  cases h : requestBits nbits w with
  | ok q =>
    obtain ⟨hn, hw, rfl⟩ := requestBits_eq_ok.mp h
    simp only [Except.map, Except.ok.injEq, hn, hw, true_and]
    exact eq_comm
  | error e =>
    simp only [Except.map, reduceCtorEq, false_iff]
    rintro ⟨rfl, hw, -⟩
    rw [requestBits_of_lt hw] at h
    cases h

end Sys2Proof
end

