-- ==== Sys2Proof/Laws/State.lean ====
section
/-! SUPPORT. What each update of the state leaves in each field, by definition, and what the operations that read
the state see after it. -/

namespace Sys2Proof.Machine

/-! ### `tick` -/

@[simp] theorem State.tick_cfg (s : State) : s.tick.cfg = s.cfg := rfl
@[simp] theorem State.tick_faulted (s : State) : s.tick.faulted = s.faulted := rfl
@[simp] theorem State.tick_faultCause (s : State) : s.tick.faultCause = s.faultCause := rfl
@[simp] theorem State.tick_slot (s : State) : s.tick.slot = s.slot := rfl
@[simp] theorem State.tick_requests (s : State) : s.tick.requests = s.requests := rfl
@[simp] theorem State.tick_env (s : State) : s.tick.env = s.env := rfl
@[simp] theorem State.tick_delivered (s : State) : s.tick.delivered = s.delivered := rfl
@[simp] theorem State.tick_freeCount (s : State) : s.tick.freeCount = s.freeCount + 1 := rfl

/-! ### `takeEvent` -/

@[simp] theorem State.takeEvent_cfg (s : State) : s.takeEvent.cfg = s.cfg := rfl
@[simp] theorem State.takeEvent_faulted (s : State) : s.takeEvent.faulted = s.faulted := rfl
@[simp] theorem State.takeEvent_faultCause (s : State) : s.takeEvent.faultCause = s.faultCause := rfl
@[simp] theorem State.takeEvent_slot (s : State) : s.takeEvent.slot = s.slot := rfl
@[simp] theorem State.takeEvent_requests (s : State) : s.takeEvent.requests = s.requests := rfl
@[simp] theorem State.takeEvent_env (s : State) : s.takeEvent.env = s.env.tail := rfl
@[simp] theorem State.takeEvent_delivered (s : State) : s.takeEvent.delivered = s.delivered := rfl
@[simp] theorem State.takeEvent_freeCount (s : State) : s.takeEvent.freeCount = s.freeCount + 1 := rfl

/-! ### `offerWord` -/

@[simp] theorem State.offerWord_cfg (s : State) (q : ReqWord) : (s.offerWord q).cfg = s.cfg := rfl
@[simp] theorem State.offerWord_faulted (s : State) (q : ReqWord) : (s.offerWord q).faulted = 0 := rfl
@[simp] theorem State.offerWord_faultCause (s : State) (q : ReqWord) : (s.offerWord q).faultCause = 0 := rfl
@[simp] theorem State.offerWord_slot (s : State) (q : ReqWord) : (s.offerWord q).slot = .empty := rfl
@[simp] theorem State.offerWord_requests (s : State) (q : ReqWord) : (s.offerWord q).requests = q :: s.requests := rfl
@[simp] theorem State.offerWord_env (s : State) (q : ReqWord) : (s.offerWord q).env = .request :: s.env := rfl
@[simp] theorem State.offerWord_delivered (s : State) (q : ReqWord) : (s.offerWord q).delivered = s.delivered := rfl
@[simp] theorem State.offerWord_freeCount (s : State) (q : ReqWord) : (s.offerWord q).freeCount = s.freeCount := rfl

/-- What the offer of a word of `nbits` bits can do: 48 bits are offered, anything else changes nothing (R67). -/
theorem State.offerNext_eq (s : State) (nbits w : Nat) :
    s.offerNext nbits w = if nbits = 48 ∧ w < 2 ^ 48 then s.offerWord (BitVec.ofNat 48 w) else s := by
  unfold State.offerNext
  split
  · rename_i e h
    rw [if_neg]
    rintro ⟨rfl, hw⟩
    rw [requestBits_of_lt hw] at h
    cases h
  · rename_i q h
    obtain ⟨rfl, hw, rfl⟩ := requestBits_eq_ok.mp h
    rw [if_pos ⟨rfl, hw⟩]

/-! ### `writeFault` -/

@[simp] theorem State.writeFault_cfg (s : State) (b : Bit) (c : CauseCode) : (s.writeFault b c).cfg = s.cfg := rfl
@[simp] theorem State.writeFault_faulted (s : State) (b : Bit) (c : CauseCode) : (s.writeFault b c).faulted = latchWrite s.cfg.variant s.faulted b := rfl
@[simp] theorem State.writeFault_faultCause (s : State) (b : Bit) (c : CauseCode) : (s.writeFault b c).faultCause = latchWrite s.cfg.variant s.faultCause c := rfl
@[simp] theorem State.writeFault_slot (s : State) (b : Bit) (c : CauseCode) : (s.writeFault b c).slot = s.slot := rfl
@[simp] theorem State.writeFault_requests (s : State) (b : Bit) (c : CauseCode) : (s.writeFault b c).requests = s.requests := rfl
@[simp] theorem State.writeFault_env (s : State) (b : Bit) (c : CauseCode) : (s.writeFault b c).env = s.env := rfl
@[simp] theorem State.writeFault_delivered (s : State) (b : Bit) (c : CauseCode) : (s.writeFault b c).delivered = s.delivered := rfl
@[simp] theorem State.writeFault_freeCount (s : State) (b : Bit) (c : CauseCode) : (s.writeFault b c).freeCount = s.freeCount := rfl

/-! ### `await` -/

@[simp] theorem State.await_cfg (q : ReqWord) (n : Nat) (s : State) : (s.await q n).cfg = s.cfg := rfl
@[simp] theorem State.await_faulted (q : ReqWord) (n : Nat) (s : State) : (s.await q n).faulted = s.faulted := rfl
@[simp] theorem State.await_faultCause (q : ReqWord) (n : Nat) (s : State) : (s.await q n).faultCause = s.faultCause := rfl
@[simp] theorem State.await_slot (q : ReqWord) (n : Nat) (s : State) : (s.await q n).slot = .waiting q n := rfl
@[simp] theorem State.await_requests (q : ReqWord) (n : Nat) (s : State) : (s.await q n).requests = s.requests := rfl
@[simp] theorem State.await_env (q : ReqWord) (n : Nat) (s : State) : (s.await q n).env = s.env := rfl
@[simp] theorem State.await_delivered (q : ReqWord) (n : Nat) (s : State) : (s.await q n).delivered = s.delivered := rfl
@[simp] theorem State.await_freeCount (q : ReqWord) (n : Nat) (s : State) : (s.await q n).freeCount = s.freeCount := rfl

/-! ### `present` -/

@[simp] theorem State.present_cfg (r : Response) (s : State) : (s.present r).cfg = s.cfg := rfl
@[simp] theorem State.present_faulted (r : Response) (s : State) : (s.present r).faulted = s.faulted := rfl
@[simp] theorem State.present_faultCause (r : Response) (s : State) : (s.present r).faultCause = s.faultCause := rfl
@[simp] theorem State.present_slot (r : Response) (s : State) : (s.present r).slot = .presenting r := rfl
@[simp] theorem State.present_requests (r : Response) (s : State) : (s.present r).requests = s.requests := rfl
@[simp] theorem State.present_env (r : Response) (s : State) : (s.present r).env = s.env := rfl
@[simp] theorem State.present_delivered (r : Response) (s : State) : (s.present r).delivered = s.delivered := rfl
@[simp] theorem State.present_freeCount (r : Response) (s : State) : (s.present r).freeCount = s.freeCount := rfl

/-! ### `deliver` -/

@[simp] theorem State.deliver_cfg (r : Response) (s : State) : (s.deliver r).cfg = s.cfg := rfl
@[simp] theorem State.deliver_faulted (r : Response) (s : State) : (s.deliver r).faulted = s.faulted := rfl
@[simp] theorem State.deliver_faultCause (r : Response) (s : State) : (s.deliver r).faultCause = s.faultCause := rfl
@[simp] theorem State.deliver_slot (r : Response) (s : State) : (s.deliver r).slot = .empty := rfl
@[simp] theorem State.deliver_requests (r : Response) (s : State) : (s.deliver r).requests = s.requests := rfl
@[simp] theorem State.deliver_env (r : Response) (s : State) : (s.deliver r).env = s.env := rfl
@[simp] theorem State.deliver_delivered (r : Response) (s : State) : (s.deliver r).delivered = s.delivered ++ [r] := rfl
@[simp] theorem State.deliver_freeCount (r : Response) (s : State) : (s.deliver r).freeCount = s.freeCount := rfl

/-! ### `raiseFault` -/

@[simp] theorem State.raiseFault_cfg (c : Cause) (s : State) : (s.raiseFault c).cfg = s.cfg := rfl
@[simp] theorem State.raiseFault_faulted (c : Cause) (s : State) : (s.raiseFault c).faulted = latchWrite s.cfg.variant s.faulted 1 := rfl
@[simp] theorem State.raiseFault_faultCause (c : Cause) (s : State) : (s.raiseFault c).faultCause = latchWrite s.cfg.variant s.faultCause (causeCode c) := rfl
@[simp] theorem State.raiseFault_slot (c : Cause) (s : State) : (s.raiseFault c).slot = .empty := rfl
@[simp] theorem State.raiseFault_requests (c : Cause) (s : State) : (s.raiseFault c).requests = s.requests := rfl
@[simp] theorem State.raiseFault_env (c : Cause) (s : State) : (s.raiseFault c).env = s.env := rfl
@[simp] theorem State.raiseFault_delivered (c : Cause) (s : State) : (s.raiseFault c).delivered = s.delivered := rfl
@[simp] theorem State.raiseFault_freeCount (c : Cause) (s : State) : (s.raiseFault c).freeCount = s.freeCount := rfl

/-! ### `resetEdge` -/

@[simp] theorem State.resetEdge_cfg (s : State) : s.resetEdge.cfg = s.cfg := rfl
@[simp] theorem State.resetEdge_faulted (s : State) : s.resetEdge.faulted = 0 := rfl
@[simp] theorem State.resetEdge_faultCause (s : State) : s.resetEdge.faultCause = 0 := rfl
@[simp] theorem State.resetEdge_slot (s : State) : s.resetEdge.slot = .empty := rfl
@[simp] theorem State.resetEdge_requests (s : State) : s.resetEdge.requests = s.requests := rfl
@[simp] theorem State.resetEdge_env (s : State) : s.resetEdge.env = s.env := rfl
@[simp] theorem State.resetEdge_delivered (s : State) : s.resetEdge.delivered = s.delivered := rfl
@[simp] theorem State.resetEdge_freeCount (s : State) : s.resetEdge.freeCount = s.freeCount := rfl

/-! ### `resetOf` -/

@[simp] theorem State.resetOf_cfg (c : Config) : (State.resetOf c).cfg = c := rfl
@[simp] theorem State.resetOf_faulted (c : Config) : (State.resetOf c).faulted = 0 := rfl
@[simp] theorem State.resetOf_faultCause (c : Config) : (State.resetOf c).faultCause = 0 := rfl
@[simp] theorem State.resetOf_slot (c : Config) : (State.resetOf c).slot = .empty := rfl
@[simp] theorem State.resetOf_requests (c : Config) : (State.resetOf c).requests = [] := rfl
@[simp] theorem State.resetOf_env (c : Config) : (State.resetOf c).env = [] := rfl
@[simp] theorem State.resetOf_delivered (c : Config) : (State.resetOf c).delivered = [] := rfl
@[simp] theorem State.resetOf_freeCount (c : Config) : (State.resetOf c).freeCount = 0 := rfl

/-! ### Reading the latches -/

@[simp] theorem latchRead_fallible {w : Nat} (x : BitVec w) : latchRead .fallible x = 0 := rfl
@[simp] theorem latchRead_assertive {w : Nat} (x : BitVec w) : latchRead .assertive x = x := rfl
@[simp] theorem latchWrite_fallible {w : Nat} (x y : BitVec w) : latchWrite .fallible x y = x := rfl
@[simp] theorem latchWrite_assertive {w : Nat} (x y : BitVec w) : latchWrite .assertive x y = y := rfl

@[simp] theorem latchRead_zero {w : Nat} (v : Variant) : latchRead v (0 : BitVec w) = 0 := by cases v <;> rfl

/-- What is read after a write: the value written, in an instance that has the latch. -/
@[simp] theorem latchRead_latchWrite {w : Nat} (v : Variant) (x y : BitVec w) :
    latchRead v (latchWrite v x y) = latchRead v y := by cases v <;> rfl

@[simp] theorem State.tick_readFaulted (s : State) : s.tick.readFaulted = s.readFaulted := rfl
@[simp] theorem State.tick_readFaultCause (s : State) : s.tick.readFaultCause = s.readFaultCause := rfl
@[simp] theorem State.takeEvent_readFaulted (s : State) : s.takeEvent.readFaulted = s.readFaulted := rfl
@[simp] theorem State.takeEvent_readFaultCause (s : State) : s.takeEvent.readFaultCause = s.readFaultCause := rfl
@[simp] theorem State.await_readFaulted (q : ReqWord) (n : Nat) (s : State) : (s.await q n).readFaulted = s.readFaulted := rfl
@[simp] theorem State.await_readFaultCause (q : ReqWord) (n : Nat) (s : State) : (s.await q n).readFaultCause = s.readFaultCause := rfl
@[simp] theorem State.present_readFaulted (r : Response) (s : State) : (s.present r).readFaulted = s.readFaulted := rfl
@[simp] theorem State.present_readFaultCause (r : Response) (s : State) : (s.present r).readFaultCause = s.readFaultCause := rfl
@[simp] theorem State.deliver_readFaulted (r : Response) (s : State) : (s.deliver r).readFaulted = s.readFaulted := rfl
@[simp] theorem State.deliver_readFaultCause (r : Response) (s : State) : (s.deliver r).readFaultCause = s.readFaultCause := rfl
@[simp] theorem State.tick_ready (s : State) : s.tick.ready = s.ready := rfl
@[simp] theorem State.takeEvent_ready (s : State) : s.takeEvent.ready = s.ready := rfl

@[simp] theorem State.resetEdge_readFaulted (s : State) : s.resetEdge.readFaulted = 0 := latchRead_zero _
@[simp] theorem State.resetEdge_readFaultCause (s : State) : s.resetEdge.readFaultCause = 0 := latchRead_zero _
@[simp] theorem State.resetOf_readFaulted (c : Config) : (State.resetOf c).readFaulted = 0 := latchRead_zero _
@[simp] theorem State.resetOf_readFaultCause (c : Config) : (State.resetOf c).readFaultCause = 0 := latchRead_zero _

/-- After a fault is raised, `FAULTED` reads 1 in the instance that has it (R124). -/
@[simp] theorem State.raiseFault_readFaulted (c : Cause) (s : State) :
    (s.raiseFault c).readFaulted = latchRead s.cfg.variant 1 := latchRead_latchWrite _ _ _

/-- After a fault is raised, `FAULT_CAUSE` reads its cause in the instance that has it (R124). -/
@[simp] theorem State.raiseFault_readFaultCause (c : Cause) (s : State) :
    (s.raiseFault c).readFaultCause = latchRead s.cfg.variant (causeCode c) := latchRead_latchWrite _ _ _

end Sys2Proof.Machine
end

