-- ==== Sys2Proof/Laws/Ops.lean ====
section
/-! SUPPORT. What each shared operation can do, said once: the frame of an instruction, the edge of the clock, the
offer of a request, and the step built from them. -/

namespace Sys2Proof.Machine

/-! ### Readiness -/

/-- The block is ready exactly when it is not faulted and nothing is in flight (R65.1). -/
theorem State.ready_iff (s : State) : s.ready = true ↔ s.readFaulted = 0 ∧ s.slot = .empty := by
  simp [State.ready]

/-- One bit is 0 or 1. -/
theorem bit_ne_zero {b : Bit} : b ≠ 0 ↔ b = 1 := by revert b; decide

theorem bit_ne_one {b : Bit} : b ≠ 1 ↔ b = 0 := by revert b; decide

/-! ### The frame of the instructions -/

/-- Both meanings are `transact` with the row's contract and the row's verdict. -/
theorem exec_eq_transact (i : Instr) (s : State) : exec i s = transact i.variant (instrVerdict s.cfg i) s := by
  cases i <;> rfl

/-- Everything `transact` can do when it answers a next state: nothing, where the request is held, or the end
of the transaction. -/
theorem transact_next {v : Variant} {verdict : Option Verdict} {s t : State}
    (h : transact v verdict s = .next t) :
    s.cfg.wf = true ∧ s.cfg.variant = v ∧
      ((s.ready = false ∧ t = s) ∨ (s.ready = true ∧ ∃ r, verdict = some r ∧ t = s.conclude r)) := by
  unfold transact at h
  split at h
  · cases h
  · split at h
    · cases h
    · rename_i hw hv
      refine ⟨by simpa using hw, by simpa using hv, ?_⟩
      split at h
      · rename_i hr
        cases h
        exact .inl ⟨hr, rfl⟩
      · rename_i hr
        cases verdict with
        | none => cases h
        | some r =>
          cases h
          exact .inr ⟨by simpa using hr, r, rfl, rfl⟩

/-- Everything an instruction can do when it answers a next state. -/
theorem exec_next {i : Instr} {s t : State} (h : exec i s = .next t) :
    s.cfg.wf = true ∧ s.cfg.variant = i.variant ∧
      ((s.ready = false ∧ t = s) ∨
        (s.ready = true ∧ ∃ r, instrVerdict s.cfg i = some r ∧ t = s.conclude r)) :=
  transact_next (exec_eq_transact i s ▸ h)

/-- What an instruction of the instance's own contract does in a block that is ready. -/
theorem exec_of_ready {i : Instr} {s : State} (hw : s.cfg.wf = true) (hv : s.cfg.variant = i.variant)
    (hr : s.ready = true) {r : Verdict} (h : instrVerdict s.cfg i = some r) :
    exec i s = .next (s.conclude r) := by
  simp [exec_eq_transact, transact, hw, hv, hr, h]

/-- The row a word decodes to is the row of the instance's contract. -/
@[simp] theorem decode_variant (v : Variant) (q : ReqWord) : (decode v q).variant = v := by
  cases v <;> rfl

/-! ### One edge of the clock -/

/-- What one rising edge of `clk` can do. -/
inductive EdgeTo (p : PortIn) (s : State) : State → Prop where
  /-- A reset edge (R140, R126). -/
  | reset : p.rst = 1 → EdgeTo p s s.resetEdge
  /-- The block is faulted: nothing happens (R125). -/
  | frozen : p.rst = 0 → s.readFaulted = 1 → EdgeTo p s s
  /-- A request is accepted (R65.2). -/
  | accept : p.rst = 0 → s.readFaulted = 0 → s.slot = .empty → p.reqValid = 1 →
      EdgeTo p s (s.await (portWord p) s.cfg.latency)
  /-- No request is presented. -/
  | idle : p.rst = 0 → s.readFaulted = 0 → s.slot = .empty → p.reqValid = 0 → EdgeTo p s s
  /-- The response is not due yet. -/
  | wait (q : ReqWord) (left : Nat) : p.rst = 0 → s.readFaulted = 0 → s.slot = .waiting q left → 1 < left →
      EdgeTo p s (s.await q (left - 1))
  /-- The response is presented or the fault taken (R65.3, R65.4). -/
  | finish (q : ReqWord) (left : Nat) (v : Verdict) : p.rst = 0 → s.readFaulted = 0 →
      s.slot = .waiting q left → left ≤ 1 → instrVerdict s.cfg (decode s.cfg.variant q) = some v →
      EdgeTo p s (s.finish v)
  /-- The response is delivered (R65.3). -/
  | deliver (r : Response) : p.rst = 0 → s.readFaulted = 0 → s.slot = .presenting r → p.rspReady = 1 →
      EdgeTo p s (s.deliver r)
  /-- The response is held (R65.3). -/
  | hold (r : Response) : p.rst = 0 → s.readFaulted = 0 → s.slot = .presenting r → p.rspReady = 0 →
      EdgeTo p s s

/-- A rising edge that answers a next state did one of these. -/
theorem clockEdge_next {p : PortIn} {s t : State} (h : clockEdge p s = .next t) : EdgeTo p s t := by
  unfold clockEdge at h
  split at h
  · cases h; exact .reset ‹_›
  · rename_i h1
    have hr : p.rst = 0 := bit_ne_one.mp h1
    split at h
    · cases h; exact .frozen hr ‹_›
    · rename_i h2
      have hf : s.readFaulted = 0 := bit_ne_one.mp h2
      unfold workingEdge at h
      split at h
      · rename_i hs
        split at h
        · cases h; exact .accept hr hf hs ‹_›
        · cases h; exact .idle hr hf hs (bit_ne_one.mp ‹_›)
      · rename_i q left hs
        split at h
        · cases h; exact .wait q left hr hf hs ‹_›
        · unfold finishRequest at h
          split at h
          · cases h
          · rename_i v hv
            cases h
            exact .finish q left v hr hf hs (by omega) hv
      · rename_i r hs
        split at h
        · cases h; exact .deliver r hr hf hs ‹_›
        · cases h; exact .hold r hr hf hs (bit_ne_one.mp ‹_›)

/-- An edge with `rst = 1` is a reset (R126, R140). -/
theorem clockEdge_of_reset {p : PortIn} (s : State) (h : p.rst = 1) : clockEdge p s = .next s.resetEdge := by
  simp [clockEdge, h]

/-- An edge of a faulted block outside reset leaves it as it is (R125). -/
theorem clockEdge_of_faulted {p : PortIn} {s : State} (h : p.rst = 0) (hf : s.readFaulted = 1) :
    clockEdge p s = .next s := by
  simp [clockEdge, h, hf]

/-- An edge outside reset, in a block that is not faulted, does the slot's work. -/
theorem clockEdge_of_working {p : PortIn} {s : State} (h : p.rst = 0) (hf : s.readFaulted = 0) :
    clockEdge p s = workingEdge p s := by
  simp [clockEdge, h, hf]

/-! ### The offer of a request -/

/-- What the offer of a request can do. -/
inductive OfferTo (s : State) : State → Prop where
  /-- No request waits (R134). -/
  | idle : s.requests = [] → OfferTo s s
  /-- The block cannot accept the request, which waits on (R125). -/
  | held (q : ReqWord) (rest : List ReqWord) : s.requests = q :: rest → s.ready = false → OfferTo s s
  /-- The request runs (R92). -/
  | run (q : ReqWord) (rest : List ReqWord) (v : Verdict) : s.requests = q :: rest → s.ready = true →
      instrVerdict s.cfg (decode s.cfg.variant q) = some v →
      OfferTo s (State.conclude { s with requests := rest } v)

/-- The offer of a request that answers a next state did one of these. -/
theorem offerRequest_next {s t : State} (h : offerRequest s = .next t) : OfferTo s t := by
  unfold offerRequest at h
  split at h
  · cases h; exact .idle ‹_›
  · rename_i q rest hq
    split at h
    · rename_i hr
      obtain ⟨-, -, ⟨hr', -⟩ | ⟨-, v, hv, rfl⟩⟩ := exec_next h
      · exact absurd hr (by rw [show s.ready = false from hr']; decide)
      · exact .run q rest v hq hr hv
    · rename_i hr
      cases h
      exact .held q rest hq (by simpa using hr)

/-! ### One step -/

/-- What a step can do: its event's effect on the state that has taken the event. -/
inductive StepTo (s : State) : State → Prop where
  | request {t : State} : s.nextEvent = .request → OfferTo s.takeEvent t → StepTo s t
  | reset : s.nextEvent = .reset → StepTo s s.takeEvent.resetEdge
  | edge {t : State} (p : PortIn) : s.nextEvent = .edge p → EdgeTo p s.takeEvent t → StepTo s t

/-- A step that answers a next state is a step of a well-formed instance, and did one of these. -/
theorem stepEvent_next {s t : State} (h : stepEvent s = .next t) : s.cfg.wf = true ∧ StepTo s t := by
  unfold stepEvent at h
  split at h
  · cases h
  · rename_i hw
    refine ⟨by simpa using hw, ?_⟩
    unfold handleEvent at h
    split at h
    · exact .request ‹_› (offerRequest_next h)
    · cases h; exact .reset ‹_›
    · exact .edge _ ‹_› (clockEdge_next h)

end Sys2Proof.Machine
end

