-- ==== Sys2Proof/Laws/PerInstr.lean ====
section
/-! SUPPORT. A fact about every instruction as a piece of syntax, one lemma per constructor. -/

namespace Sys2Proof.Laws.Operands

/-- The operands lie in the ranges of spec/30_encoding.md R62, and the instruction is well formed in the
instances of one contract only (R63), whatever its operands (R66). -/
def Statement (i : Instr) : Prop :=
  i.freq.toNat ≤ 2 ^ 32 - 1 ∧ i.key.toNat ≤ 65535 ∧ ∀ v, i.wf v = true ↔ v = i.variant

/-- The ranges of the two operands. -/
theorem operand_ranges (i : Instr) : i.freq.toNat ≤ 2 ^ 32 - 1 ∧ i.key.toNat ≤ 65535 :=
  ⟨Nat.le_sub_one_of_lt i.freq.isLt, Nat.le_of_lt_succ i.key.isLt⟩

/-- Well-formedness names the contract. -/
theorem wf_iff (i : Instr) (v : Variant) : i.wf v = true ↔ v = i.variant := by
  simp [Instr.wf, eq_comm]

theorem periodForKeyFallible (f : Freq) (k : Key) : Statement (.periodForKeyFallible f k) :=
  ⟨(operand_ranges _).1, (operand_ranges _).2, wf_iff _⟩

theorem periodForKeyAssertive (f : Freq) (k : Key) : Statement (.periodForKeyAssertive f k) :=
  ⟨(operand_ranges _).1, (operand_ranges _).2, wf_iff _⟩

end Sys2Proof.Laws.Operands
end

