-- ==== Sys2Proof/Laws/Ports.lean ====
section
/-! SUPPORT. The response ports, cited by name: when a response is presented, and what they then carry. -/

namespace Sys2Proof.Machine

/-- What `presented` can do: it gives the slot's record in a cycle outside reset and fault, and nothing else. -/
theorem presented_eq_some {rst : Bit} {s : State} {r : Response} :
    presented rst s = some r ↔ rst = 0 ∧ s.readFaulted = 0 ∧ s.slot = .presenting r := by
  unfold presented
  split
  · rename_i q h
    simp [h, and_assoc]
  · rename_i h
    simpa using fun _ _ => h r

/-- `rsp_valid` is 1 exactly while a response is presented (R65.3). -/
theorem rspValid_eq_one {rst : Bit} {s : State} : rspValid rst s = 1 ↔ ∃ r, presented rst s = some r := by
  unfold rspValid
  cases presented rst s <;> simp

/-- The ports show the record presented (R64). -/
theorem shownRecord_of_presented {rst : Bit} {s : State} {r : Response} (h : presented rst s = some r) :
    shownRecord rst s = r := by
  simp [shownRecord, h]

/-- They carry its three fields. -/
theorem portsCarry_of_presented {rst : Bit} {s : State} {r : Response} (h : presented rst s = some r) :
    portsCarry (outputs rst s) r := by
  simp [portsCarry, outputs, shownRecord_of_presented h]

/-- In a cycle with `rst = 1` no response is presented (R140). -/
@[simp] theorem presented_of_reset (s : State) : presented 1#1 s = none := by
  unfold presented
  split <;> simp

/-- With nothing in the slot no response is presented. -/
@[simp] theorem presented_of_empty {rst : Bit} {s : State} (h : s.slot = .empty) : presented rst s = none := by
  simp [presented, h]

end Sys2Proof.Machine
end

