-- ==== Sys2Proof/Laws/Step.lean ====
section
/-! SUPPORT. The step, cited by name: what it can do, and its answer to each event. -/

namespace Sys2Proof.Machine

/-- A step that answers a next state did one of the things `StepTo` lists. -/
theorem step_next {s t : State} (h : step s = .next t) : s.cfg.wf = true ∧ StepTo s t := stepEvent_next h

/-- The step of a well-formed instance is its next event's effect. -/
theorem step_of_wf {s : State} (hw : s.cfg.wf = true) : step s = handleEvent s.nextEvent s.takeEvent := by
  simp [step, stepEvent, hw]

@[simp] theorem State.nextEvent_of_nil {s : State} (h : s.env = []) : s.nextEvent = .request := by
  simp [State.nextEvent, h]

@[simp] theorem State.nextEvent_of_cons {s : State} {e : Event} {es : List Event} (h : s.env = e :: es) :
    s.nextEvent = e := by
  simp [State.nextEvent, h]

/-- The effect of each event. -/
@[simp] theorem handleEvent_request (s : State) : handleEvent .request s = offerRequest s := rfl
@[simp] theorem handleEvent_reset (s : State) : handleEvent .reset s = .next s.resetEdge := rfl
@[simp] theorem handleEvent_edge (p : PortIn) (s : State) : handleEvent (.edge p) s = clockEdge p s := rfl

/-- A request held, or none waiting, leaves the state as it is (R125, R134). -/
theorem offerRequest_of_not_ready {s : State} (h : s.ready = false) : offerRequest s = .next s := by
  unfold offerRequest
  split
  · rfl
  · simp [h]

/-- The oldest request waiting runs in a block that is ready. -/
theorem offerRequest_of_ready {s : State} {q : ReqWord} {rest : List ReqWord} (hq : s.requests = q :: rest)
    (hr : s.ready = true) :
    offerRequest s = exec (decode s.cfg.variant q) { s with requests := rest } := by
  simp [offerRequest, hq, hr]

end Sys2Proof.Machine
end

