-- ==== Sys2Proof/Tests/Slice0.lean ====
section
/-! SUPPORT. The model's own tests: the request word against spec/30_encoding.md R69, a configuration that breaks
each check of R13, the vectors of spec/95_test_vectors.md, one step each, and for every statement with hypotheses
a state and operands that meet them all. -/

namespace Sys2Proof.Tests

open Sys2Proof Sys2Proof.Machine

/-- The reference configurations. -/
abbrev cF : Config := Config.reference .fallible
abbrev cA : Config := Config.reference .assertive

/-- A FALLIBLE and an ASSERTIVE instance right after reset. -/
def sF : State := State.resetOf cF
def sA : State := State.resetOf cA

/-- The same, with one request waiting. -/
def ask (s : State) (q : ReqWord) : State := { s with requests := [q] }

/-- The inputs of a cycle in which the requester presents a request and takes a response. -/
def pins (rst valid : Bit) (f : Freq) (k : Key) (ready : Bit) : PortIn :=
  { rst := rst, reqValid := valid, reqFreq := f, reqKey := k, rspReady := ready }

/-- What a step left, seen through a function of the state. -/
def after {α : Type} (f : State → α) : Host.Outcome State Fault Refusal → Option α
  | .next t => some (f t)
  | _ => none

/-! ### The request word (R69, bit by bit from R61) -/

theorem test_decode_fallible_word :
    decode .fallible 0b000000000100010100000000000011110100001001000000 =
      .periodForKeyFallible 1000000 69 := by decide

theorem test_decode_assertive_word :
    decode .assertive 0b000000000100010100000000000011110100001001000000 =
      .periodForKeyAssertive 1000000 69 := by decide

theorem test_decode_all_ones :
    decode .assertive 0xFFFFFFFFFFFF = .periodForKeyAssertive 0xFFFFFFFF 0xFFFF := by decide

theorem test_encode_words :
    encode (.periodForKeyFallible 4194303 127) = 0x007F003FFFFF ∧
    encode (.periodForKeyAssertive 2093 108) = 0x006C0000082D := by decide

theorem test_decode_rejects_other_lengths :
    decodeBits .fallible 47 0 = .error (.wrongLength 47) ∧
    decodeBits .fallible 49 0 = .error (.wrongLength 49) ∧
    decodeBits .fallible 48 (2 ^ 48) = .error (.tooWide 48 (2 ^ 48)) := ⟨rfl, rfl, rfl⟩

theorem test_decodeTableWord :
    decodeTableWord 48 0x0045000F4240 = some (.periodForKeyFallible 1000000 69) ∧
    decodeTableWord 49 0 = none ∧ decodeTableWord 47 0 = none := ⟨rfl, rfl, rfl⟩

theorem test_readLine :
    readLine "PFK 1000000, 69".toList = some (.request 0x0045000F4240) ∧
    readLine "PERIOD_FOR_KEY 0xFFFFFFFF, 0xFFFF".toList = some (.request 0xFFFFFFFFFFFF) ∧
    readLine "RESET".toList = some .reset ∧
    readLine "PFK 4294967296, 69".toList = none ∧ readLine "PFK 1, 65536".toList = none ∧
    readLine "PFK 0x, 69".toList = none := ⟨rfl, rfl, rfl, rfl, rfl, rfl⟩

theorem test_outcomeText :
    (instrVerdict cF (.periodForKeyFallible 1000000 69)).map outcomeText = some "OK 2273".toList ∧
    (instrVerdict cF (.periodForKeyFallible 1000000 0)).map outcomeText = some "ABSENT 3".toList ∧
    (instrVerdict cA (.periodForKeyAssertive 1000000 128)).map outcomeText = some "FAULT 1".toList := by
  decide

/-- R64: the packed word is 19 bits wide for FALLIBLE. -/
theorem test_packRecord :
    (packRecord 16 (okRecord 2273)).toNat = 0x408E1 ∧
    (packRecord 16 (absentRecord .outputOverflow)).toNat = 0x30000 := by decide

/-! ### A configuration that breaks each check of R13, and the bound on LATENCY -/

theorem test_wf_reference : cF.wf = true ∧ cA.wf = true := by decide
theorem test_wf_a_scale : { cF with scale := 0 }.wf = false := by decide
theorem test_wf_a_alone : { cF with scale := 0 }.scalePositive = false := by decide
theorem test_wf_b_length : { cF with expFrac := 1024 :: referenceTable }.tableHasTwelve = false := by decide
theorem test_wf_c_first : { cF with expFrac := 1023 :: referenceTable.tail }.tableStartsAtScale = false := by decide
theorem test_wf_d_order :
    { cF with expFrac := referenceTable.take 10 ++ [1933, 1825] }.tableMonotone = false := by decide
theorem test_wf_e_bound : { cF with expFrac := referenceTable.take 11 ++ [2049] }.tableBounded = false := by decide
theorem test_wf_e_boundary : { cF with expFrac := referenceTable.take 11 ++ [2048] }.wf = true := by decide
theorem test_wf_f_base : { cF with baseFx := 0 }.baseFxPositive = false := by decide
theorem test_wf_g_shift : { cF with baseShift := 0 }.wf = true := by decide
theorem test_wf_h_widths :
    { cF with workW := 0 }.widthsPositive = false ∧ { cF with outW := 0 }.widthsPositive = false := by decide
theorem test_wf_latency : { cF with latency := 0 }.wf = false := by decide
theorem test_wf_instr : Instr.wf .fallible (.periodForKeyAssertive 1 1) = false := by decide

/-! ### The vectors of spec/95_test_vectors.md, sections 2 and 3 -/

theorem test_octave_split :
    [0, 11, 12, 59, 60, 69, 119, 120, 127].map (fun k => (octave k, semitone k)) =
      [(0, 0), (0, 11), (1, 0), (4, 11), (5, 0), (5, 9), (9, 11), (10, 0), (10, 7)] := by decide

theorem test_rounding_vectors :
    [(2093, 108), (2092, 108), (1000000, 11), (1000000, 127), (44100, 69), (8, 0), (4, 0), (0, 127)].map
        (fun x => convert cF x.1 x.2) =
      [1, 0, 64795, 80, 100, 1, 0, 0].map (fun p => some (.ok p)) := by decide

theorem test_narrowing_vectors :
    [(1000000, 10), (535803, 0), (535804, 0), (4194303, 36)].map (fun x => (convert cF x.1 x.2, convert cA x.1 x.2)) =
      [(some (.err .outputOverflow), some (.ok 68629)), (some (.ok 65535), some (.ok 65535)),
       (some (.err .outputOverflow), some (.ok 65536)), (some (.ok 64127), some (.ok 64127))] := by decide

theorem test_priority_vectors :
    [(0xFFFFFFFF, 200), (0xFFFFFFFF, 0xFFFF), (4294967295, 60), (4194304, 0)].map (fun x => convert cA x.1 x.2) =
      [some (.err .keyRange), some (.err .keyRange), some (.err .productOverflow), some (.err .productOverflow)] := by
  decide

theorem test_key_is_not_masked : convert cF 1000000 255 = some (.err .keyRange) := by decide

theorem test_octave_of_twelve_keys :
    (List.range 12).map (fun i => convert cF 1000000 (60 + i)) =
      [3822, 3607, 3406, 3213, 3034, 2863, 2703, 2551, 2409, 2273, 2145, 2025].map (fun p => some (.ok p)) := by
  decide

/-! ### One step (spec/95_test_vectors.md 2.7, programs P2 to P4) -/

theorem test_step_fallible_ok :
    after State.delivered (step (ask sF 0x0045000F4240)) = some [{ ok := 1, cause := 0, period := 2273 }] := by
  decide

theorem test_step_fallible_absent :
    after (fun t => (t.delivered, t.faultState)) (step (ask sF 0x0005000F4240)) =
      some ([{ ok := 0, cause := 3, period := 0 }], (0, 0)) := by decide

theorem test_step_assertive_ok :
    after (fun t => (t.delivered, t.faultState)) (step (ask sA 0x0000000F4240)) =
      some ([{ ok := 1, cause := 0, period := 122312 }], (0, 0)) := by decide

theorem test_step_assertive_fault :
    after (fun t => (t.delivered, t.faultState, t.requests)) (step (ask sA 0x003C00400000)) =
      some ([], (1, 2), []) := by decide

theorem test_step_held :
    after (fun t => (t.delivered, t.faultState, t.requests))
        (step { ask sA 0x0045000F4240 with faulted := 1, faultCause := 2 }) =
      some ([], (1, 2), [0x0045000F4240]) := by decide

theorem test_step_reset :
    after (fun t => (t.faultState, t.slot))
        (step { sA with faulted := 1, faultCause := 1, env := [.reset] }) = some ((0, 0), .empty) := by decide

theorem test_step_ill_formed : step { sF with cfg := { cF with baseFx := 0 } } = .refused .illFormedConfiguration :=
  rfl

theorem test_withFetchWord :
    after State.delivered (step (State.reset.withFetchWord 48 0x0045000F4240)) =
      some [{ ok := 1, cause := 0, period := 2273 }] := by decide

theorem test_withFetchWord_other_length :
    State.reset.withFetchWord 49 0x0045000F4240 = State.reset ∧ State.reset.withFetchWord 47 0x0045000F4240 = State.reset := by
  decide

theorem test_edge_accepts :
    after State.slot (step { sA with env := [.edge (pins 0 1 1000000 69 0)] }) =
      some (.waiting 0x0045000F4240 1) := by decide

theorem test_edge_responds :
    after State.slot (step { sA with slot := .waiting 0x0045000F4240 1, env := [.edge (pins 0 0 0 0 0)] }) =
      some (.presenting { ok := 1, cause := 0, period := 2273 }) := by decide

theorem test_edge_faults :
    after (fun t => (t.slot, t.faultState))
        (step { sA with slot := .waiting 0x0080000F4240 1, env := [.edge (pins 0 0 0 0 0)] }) =
      some (.empty, (1, 1)) := by decide

/-! ### Witnesses: for each statement with hypotheses, values that meet them all -/

theorem witness_DecodeOfEncode :
    Instr.wf .fallible (.periodForKeyFallible 1000000 69) = true ∧
    Instr.wf .assertive (.periodForKeyAssertive 0xFFFFFFFF 0xFFFF) = true := by decide

theorem witness_OnlyFortyEightBitsDecode : (5 : Nat) < 2 ^ 48 ∧ (5 : Nat) < 2 ^ 47 := by decide

theorem witness_SpelledRequestsAreInRange :
    spellRequest (2 ^ 32 - 1) 65535 = some 0xFFFFFFFFFFFF ∧ spellRequest (2 ^ 32) 0 = none ∧
    spellRequest 0 65536 = none := ⟨rfl, rfl, rfl⟩

theorem witness_PackedRecordRoundTrip : 1 ≤ 16 ∧ (okRecord 65535).period < 2 ^ 16 := by decide

theorem witness_IllFormedConfigurationIsRefused :
    { cF with baseFx := 0 }.meetsR13 = false ∧ { sF with cfg := { cF with baseFx := 0 } }.cfg.baseFx = 0 := by
  decide

theorem witness_TableReadFindsTheSemitone :
    cF.wf = true ∧ tableRead cF 11 = some 1933 ∧ tableRead cF 0 = some 1024 ∧ (12 : TableIndex).toNat = 12 ∧
    tableRead cF 12 = none ∧ tableRead cF 15 = none := by decide

theorem witness_ReferenceTableIsNearest : 11 ∈ List.range 12 ∧ referenceTable[11]? = some 1933 := by decide

theorem witness_SafeCeilingIsExact :
    cF.wf = true ∧ convert cF 4194303 127 = some (.ok 334) ∧
    convert cF 4194304 127 = some (.err .productOverflow) := by decide

theorem witness_ConvertIsTotal : cF.wf = true ∧ convert cF 535803 0 = some (.ok 65535) := by decide

theorem witness_FirstFailingCheckDecides :
    cF.wf = true ∧ 127 < 128 ∧ 2 ^ cF.workW - 1 < 4194304 * cF.scale ∧
    4194303 * cF.scale ≤ 2 ^ cF.workW - 1 ∧ unguardedPeriod cF 1000000 10 = some 68629 ∧
    unguardedPeriod cF 1000000 11 = some 64795 := by decide

theorem witness_DenominatorIsPositive : cF.wf = true ∧ tableRead cF (tableIndex 0) = some 1024 := by decide

theorem witness_RoundingIsHalfUp : 1 ≤ 2 ∧ 2 * 3 = 2 * (2 * 1) + 2 ∧ roundedQuotient 3 2 = 2 := by decide

theorem witness_RemainderFormAgrees : 1 ≤ 1 ∧ roundedByRemainder 3 2 = 2 ∧ roundedByRemainder 1 3 = 0 := by decide

theorem witness_OctaveOffsetFormAgrees :
    cF.wf = true ∧ tableRead cF (tableIndex 127) = some 1534 ∧ octave 127 ≤ cF.baseShift ∧ 10 ≤ cF.baseShift := by
  decide

theorem witness_DatapathRanges :
    cF.wf = true ∧ productOverflows cF 4194303 = false ∧ tableRead cF (tableIndex 127) = some 1534 := by decide

theorem witness_PeriodNeverRisesWithKey :
    cF.wf = true ∧ 126 ≤ 127 ∧ convert cF 1000000 10 = some (.err .outputOverflow) := by decide

theorem witness_ZeroFrequencyGivesZeroPeriod : cF.wf = true ∧ convert cF 0 127 = some (.ok 0) := by decide

theorem witness_ReferenceLargestPeriod : convert cA 4194303 0 = some (.ok 513016) := by decide

theorem witness_FallibleFitLimits :
    convert cF 4045738 35 = some (.ok 65535) ∧ convert cF 4045739 35 = some (.err .outputOverflow) ∧
    convert cF 4194303 36 = some (.ok 64127) ∧ convert cF 4194304 36 = some (.err .productOverflow) := by decide

theorem witness_CentBandAtOneMegahertz :
    12 ∈ (List.range 116).map (· + 12) ∧ 127 ∈ (List.range 116).map (· + 12) ∧
    convert cF 1000000 126 = some (.ok 84) := by decide

theorem witness_FallibleDeliversOneRecord :
    sF.cfg.wf = true ∧ sF.cfg.variant = .fallible ∧ sF.slot = .empty ∧
    (1845322752 : Nat) = sF.cfg.baseFx * sF.cfg.expFrac.getD ((69 : Key).toNat % 12) 0 * 2 ^ ((69 : Key).toNat / 12) ∧
    (2273 : Nat) = (2 * ((1000000 : Freq).toNat * sF.cfg.scale * 2 ^ sF.cfg.baseShift) + 1845322752)
      / (2 * 1845322752) := by decide

theorem witness_AssertiveDeliversThePeriod :
    sA.cfg.wf = true ∧ sA.cfg.variant = .assertive ∧ sA.faulted = 0 ∧ sA.slot = .empty ∧
    (34291712 : Nat) = sA.cfg.baseFx * sA.cfg.expFrac.getD ((0 : Key).toNat % 12) 0 * 2 ^ ((0 : Key).toNat / 12) ∧
    (513016 : Nat) = (2 * ((4194303 : Freq).toNat * sA.cfg.scale * 2 ^ sA.cfg.baseShift) + 34291712)
      / (2 * 34291712) ∧
    (0 : Key).toNat ≤ 127 ∧ (4194303 : Freq).toNat * sA.cfg.scale ≤ 2 ^ sA.cfg.workW - 1 ∧
    513016 ≤ 2 ^ sA.cfg.outW - 1 := by decide

/-- An ASSERTIVE instance with a 16-bit output, where OUTPUT_OVERFLOW can be reached. -/
def sNarrow : State := State.resetOf { cA with outW := 16 }

theorem witness_AssertiveFaultsOnAnError :
    sNarrow.cfg.wf = true ∧ sNarrow.cfg.variant = .assertive ∧ sNarrow.faulted = 0 ∧ sNarrow.slot = .empty ∧
    127 < (128 : Key).toNat ∧ 2 ^ sNarrow.cfg.workW - 1 < (4194304 : Freq).toNat * sNarrow.cfg.scale ∧
    2 ^ sNarrow.cfg.outW - 1 < (2 * ((535804 : Freq).toNat * 1024 * 2 ^ 12) + 34291712) / (2 * 34291712) ∧
    after State.faultState (exec (.periodForKeyAssertive 535804 0) sNarrow) = some (1, 3) := by decide

theorem witness_FallibleErrorLeavesNoTrace :
    sF.cfg.wf = true ∧ sF.cfg.variant = .fallible ∧ sF.slot = .empty ∧
    convert sF.cfg (1000000 : Freq).toNat (128 : Key).toNat = some (.err .keyRange) := by decide

theorem witness_UnacceptedRequestIsHeld :
    sA.cfg.wf = true ∧ Instr.wf sA.cfg.variant (.periodForKeyAssertive 1000000 69) = true ∧
    { sA with faulted := 1, faultCause := 1 }.readFaulted = 1 ∧
    { sA with slot := .waiting 0 1 }.slot ≠ .empty := by decide

theorem witness_OtherContractHasNoMeaning :
    sF.cfg.wf = true ∧ Instr.wf sF.cfg.variant (.periodForKeyAssertive 1000000 69) = false := by decide

theorem witness_OutcomeDependsOnRequestOnly :
    sA.cfg = { sA with delivered := [okRecord 7], requests := [1] }.cfg ∧ sA.cfg.wf = true ∧
    Instr.wf sA.cfg.variant (.periodForKeyAssertive 1000000 69) = true ∧ sA.readFaulted = 0 ∧
    { sA with delivered := [okRecord 7], requests := [1] }.readFaulted = 0 ∧ sA.slot = .empty := by decide

theorem witness_StepRunsTheDecodedRequest :
    (ask sF 0x0045000F4240).cfg.wf = true ∧ (ask sF 0x0045000F4240).nextEvent = .request ∧
    (ask sF 0x0045000F4240).requests = 0x0045000F4240 :: [] ∧ (ask sF 0x0045000F4240).readFaulted = 0 ∧
    (ask sF 0x0045000F4240).slot = .empty := by decide

theorem witness_WaitingRequestWaitsOn :
    { ask sA 0 with faulted := 1 }.cfg.wf = true ∧ { ask sA 0 with faulted := 1 }.nextEvent = .request ∧
    { ask sA 0 with faulted := 1 }.readFaulted = 1 ∧ { ask sA 0 with slot := .waiting 0 1 }.slot ≠ .empty ∧
    sA.requests = [] := by decide

theorem witness_ResetFromAnyState :
    sA.cfg.wf = true ∧ { sA with env := [.reset] }.nextEvent = .reset ∧
    { sA with env := [.edge (pins 1 0 0 0 0)] }.nextEvent = .edge (pins 1 0 0 0 0) ∧ (pins 1 0 0 0 0).rst = 1 := by
  decide

theorem witness_ResetWinsOverFault :
    { sA with slot := .waiting 0x0080000F4240 1 }.readFaulted = 0 ∧ (pins 0 0 0 0 0).rst = 0 ∧
    after State.readFaulted (clockEdge (pins 0 0 0 0 0) { sA with slot := .waiting 0x0080000F4240 1 }) = some 1 ∧
    (pins 1 0 0 0 0).rst = 1 := by decide

theorem witness_ResetAfterPowerUp : cA.wf = true := by decide

theorem witness_FaultLastsUntilReset :
    { sA with faulted := 1 }.cfg.wf = true ∧ { sA with faulted := 1 }.readFaulted = 1 ∧
    ∀ e ∈ { sA with faulted := 1, env := [.request, .edge (pins 0 1 0 0 0)] }.env, noReset e := by
  refine ⟨by decide, by decide, ?_⟩
  simp [noReset, pins]

theorem witness_RetryAfterResetChangesNothing :
    sA.Inv ∧ sA.readFaulted = 0 ∧ sA.slot = .empty ∧
    after State.faultState (exec (.periodForKeyAssertive 1000000 128) sA) = some (1, 1) :=
  ⟨⟨by decide, by decide, trivial, by simp [sA]⟩, by decide, by decide, by decide⟩

theorem witness_FallibleLatchesReadZero : { sF with faulted := 1, faultCause := 3 }.cfg.variant = .fallible := by
  decide

theorem witness_FaultLatchIsSetAndClearedOnlySo :
    (ask sA 0x0080000F4240).readFaulted = 0 ∧
    after State.readFaulted (step (ask sA 0x0080000F4240)) = some 1 ∧
    { sA with faulted := 1, env := [.reset] }.readFaulted = 1 ∧
    after State.readFaulted (step { sA with faulted := 1, env := [.reset] }) = some 0 := by decide

theorem witness_FallibleQueueIsAnsweredInOrder :
    { sF with requests := [1, 2, 3] }.cfg.wf = true ∧ sF.cfg.variant = .fallible ∧ sF.slot = .empty ∧ sF.env = [] ∧
    { sF with requests := [1, 2, 3] }.requests = [1, 2] ++ [3] := by decide

theorem witness_ArbiterOrderChangesNoResponse :
    ([1, 2] : List ReqWord).Perm [2, 1] ∧ sF.cfg.wf = true ∧ sF.cfg.variant = .fallible ∧ sF.slot = .empty ∧
    sF.env = [] := ⟨.swap .., by decide, by decide, by decide, by decide⟩

theorem wordMeetsPreconditions_example : wordMeetsPreconditions cA 0x0045000F4240 :=
  ⟨by decide, by decide, 2273, by decide, by decide⟩

theorem witness_AssertiveQueueStopsAtFirstError :
    sA.cfg.wf = true ∧ sA.cfg.variant = .assertive ∧ sA.faulted = 0 ∧ sA.slot = .empty ∧ sA.env = [] ∧
    { sA with requests := [0x0045000F4240, 0x0080000F4240, 7] }.requests =
      [0x0045000F4240] ++ 0x0080000F4240 :: [7] ∧
    (∀ q ∈ ([0x0045000F4240] : List ReqWord), wordMeetsPreconditions sA.cfg q) ∧
    convert sA.cfg (freqField 0x0080000F4240).toNat (keyField 0x0080000F4240).toNat = some (.err .keyRange) := by
  refine ⟨by decide, by decide, by decide, by decide, by decide, by decide, ?_, by decide⟩
  intro q hq
  rw [List.mem_singleton.mp hq]
  exact wordMeetsPreconditions_example

theorem witness_PreconditionsKeepTheBlockRunning :
    (ask sA 0x0045000F4240).readFaulted = 0 ∧ (ask sA 0x0045000F4240).requestersKeepPreconditions ∧
    after State.delivered (step (ask sA 0x0045000F4240)) = some [okRecord 2273] := by
  refine ⟨by decide, ⟨?_, ?_, ?_⟩, by decide⟩
  · intro q hq
    rw [List.mem_singleton.mp hq]
    exact wordMeetsPreconditions_example
  · intro q left h
    cases h
  · intro p h
    cases h

theorem witness_ReadyAndResetAtThePorts :
    (outputs 0 sA).reqReady = 1 ∧ (outputs 1 sA).reqReady = 0 ∧ (pins 1 0 0 0 0).rst = 1 := by decide

theorem witness_HandshakeAtAnEdge :
    sA.cfg.wf = true ∧ { sA with env := [.edge (pins 0 1 5 6 1)] }.env = .edge (pins 0 1 5 6 1) :: [] ∧
    (pins 0 1 5 6 1).rst = 0 ∧ acceptsAt (pins 0 1 5 6 1) sA ∧
    sA.slot = .empty ∧ ¬ acceptsAt (pins 0 0 5 6 1) sA ∧
    deliversAt (pins 0 1 5 6 1) { sA with slot := .presenting (okRecord 9) } ∧
    (outputs 0 { sA with slot := .presenting (okRecord 9) }).rspValid = 1 ∧ (pins 0 1 5 6 0).rspReady = 0 ∧
    ¬ deliversAt (pins 0 1 5 6 1) sA := by
  unfold acceptsAt deliversAt
  decide

theorem witness_ResponsePortsCarryTheRecord :
    { sA with slot := .presenting (okRecord 9) }.slot = .presenting (okRecord 9) ∧
    (outputs 0 { sA with slot := .presenting (okRecord 9) }).rspValid = 1 := by decide

/-- Two edges outside reset, and a request that they finish. -/
def twoEdges : List PortIn := [pins 0 1 5 6 1, pins 0 0 0 0 0]
def sFlight : State :=
  { sA with slot := .waiting 0x0045000F4240 2, env := twoEdges.map Event.edge ++ [Event.reset] }

theorem witness_RequestInFlightFinishes :
    sFlight.cfg.wf = true ∧ sFlight.readFaulted = 0 ∧ 1 ≤ twoEdges.length ∧
    sFlight.slot = .waiting 0x0045000F4240 twoEdges.length ∧
    sFlight.env = twoEdges.map Event.edge ++ [Event.reset] ∧ ∀ p ∈ twoEdges, p.rst = 0 := by decide

theorem witness_PortsRefineTheTransaction :
    sA.cfg.wf = true ∧ sA.readFaulted = 0 ∧ sA.slot = .empty ∧ (pins 0 1 1000000 69 0).rst = 0 ∧
    (pins 0 1 1000000 69 0).reqValid = 1 ∧ [pins 0 1 3 4 1].length = sA.cfg.latency ∧
    (∀ p ∈ [pins 0 1 3 4 1], p.rst = 0) ∧ (pins 0 0 0 0 1).rspReady = 1 := by decide

theorem witness_HeldRequestIsAcceptedUnchanged :
    let first := pins 1 1 5 6 0
    let last := pins 0 1 5 6 0
    keepsRequests sA (first :: [] ++ [last]) ∧ acceptsNowhere sA (first :: []) ∧ first.reqValid = 1 ∧
    clockEdge first sA = .next sA ∧ acceptsAt last sA ∧
    after State.slot (clockEdge last sA) = some (.waiting (portWord first) 1) := by
  refine ⟨⟨fun _ _ => by decide, fun _ _ => trivial⟩, ⟨?_, fun _ _ => trivial⟩, by decide, rfl, ?_, by decide⟩
  · unfold acceptsAt; decide
  · unfold acceptsAt; decide

theorem witness_ShownPeriodFitsThePort :
    { sA with slot := .presenting (okRecord 9) }.Inv := by
  refine ⟨by decide, by decide, .inl ⟨rfl, rfl, by decide⟩, by simp [sA]⟩

theorem witness_WellFormedBlockAlwaysSteps : sA.cfg.wf = true := by decide

theorem witness_ConfigurationNeverChanges :
    after State.cfg (step (ask sF 0x0045000F4240)) = some cF := by decide

theorem witness_AtMostOneResponsePerStep :
    after State.delivered (step (ask sF 0x0045000F4240)) = some [okRecord 2273] ∧
    (ask sA 0x0080000F4240).readFaulted = 0 ∧
    after (fun t => (t.readFaulted, t.delivered)) (step (ask sA 0x0080000F4240)) = some (1, []) := by decide

theorem witness_StepKeepsTheInvariant :
    (ask sA 0x0045000F4240).Inv ∧
    after State.delivered (step (ask sA 0x0045000F4240)) = some [okRecord 2273] := by
  refine ⟨⟨by decide, by decide, trivial, by simp [ask, sA]⟩, by decide⟩

end Sys2Proof.Tests
end

section
/-! PROOF. The statements about the scope of the model (spec/00_scope.md): which configurations are given a meaning
(R13), and the safe input ceiling (R11). -/

namespace Sys2Proof

/-! ### R13 as facts about the configuration -/

/-- For neighbours inside a list, the order read with a default is the order of the two entries found. -/
theorem getD_le_getD_succ_iff {l : List Nat} {i : Nat} (h : i + 1 < l.length) :
    l.getD i 0 ≤ l.getD (i + 1) 0 ↔ ∀ a b, l[i]? = some a → l[i + 1]? = some b → a ≤ b := by
  have hi : i < l.length := Nat.lt_of_succ_lt h
  simp [h, hi]

/-- R13(d) on a table of 12 entries, where every index of 0 to 11 finds one. -/
theorem Config.tableMonotone_iff {c : Config} (h : c.expFrac.length = 12) :
    c.tableMonotone = true ↔
      ∀ i ≤ 10, ∀ a b, c.expFrac[i]? = some a → c.expFrac[i + 1]? = some b → a ≤ b := by
  simp only [Config.tableMonotone, List.all_eq_true, List.mem_range, decide_eq_true_eq]
  refine forall_congr' fun i => ⟨fun hd hi => ?_, fun hd hi => ?_⟩
  · exact (getD_le_getD_succ_iff (by omega)).mp (hd (by omega))
  · exact (getD_le_getD_succ_iff (by omega)).mpr (hd (by omega))

/-- The check of R13 is the conjunction of its points (a) to (h). -/
theorem Config.meetsR13_iff (c : Config) :
    c.meetsR13 = true ↔
      1 ≤ c.scale ∧ c.expFrac.length = 12 ∧ c.expFrac[0]? = some c.scale ∧
      (∀ i ≤ 10, ∀ a b, c.expFrac[i]? = some a → c.expFrac[i + 1]? = some b → a ≤ b) ∧
      (∀ e ∈ c.expFrac, e ≤ 2 * c.scale) ∧ 1 ≤ c.baseFx ∧ 0 ≤ c.baseShift ∧ 1 ≤ c.workW ∧ 1 ≤ c.outW := by
  simp only [Config.meetsR13, Config.scalePositive, Config.tableHasTwelve, Config.tableStartsAtScale,
    Config.tableBounded, Config.baseFxPositive, Config.baseShiftNatural, Config.widthsPositive, Bool.and_eq_true,
    decide_eq_true_eq, List.all_eq_true, and_assoc]
  refine and_congr_right fun _ => and_congr_right fun hlen => ?_
  rw [Config.tableMonotone_iff hlen]

/-- A configuration that breaks R13 is ill formed, whatever its `LATENCY`. -/
theorem Config.wf_eq_false_of_meetsR13 {c : Config} (h : c.meetsR13 = false) : c.wf = false := by
  rw [Config.wf, h, Bool.false_and]

namespace Machine

/-! ### The refusal of an ill-formed configuration -/

/-- A block with an ill-formed configuration has no step, whatever the environment does next. -/
theorem step_of_not_wf {s : State} (h : s.cfg.wf = false) : step s = .refused .illFormedConfiguration :=
  if_pos h

/-- In a block with an ill-formed configuration no instruction has a meaning. -/
theorem exec_of_not_wf {s : State} (h : s.cfg.wf = false) (i : Instr) :
    exec i s = .refused .illFormedConfiguration := by
  rw [exec_eq_transact]
  exact if_pos h

/-! ### PRODUCT_OVERFLOW and the safe ceiling -/

/-- Narrowing raises OUTPUT_OVERFLOW only (R87). -/
theorem narrow_ne_productOverflow (c : Config) (p : Nat) : narrow c p ≠ .err .productOverflow := by
  unfold narrow
  split <;> simp

/-- With a valid key, `Convert` is decided by the guard of R83 first. -/
theorem convert_of_key_le {c : Config} {k : Nat} (f : Nat) (hk : k ≤ 127) :
    convert c f k =
      if productOverflows c f then some (.err .productOverflow)
      else (tableRead c (tableIndex k)).map fun e => narrow c (periodFromEntry c e f k) := by
  have hkey : keyOutOfRange k = false := by rw [keyOutOfRange_eq]; exact decide_eq_false (Nat.not_lt.mpr hk)
  rw [convert, hkey]
  rfl

/-- With a valid key, PRODUCT_OVERFLOW comes from the guard of R83 and from nowhere else. -/
theorem convert_eq_productOverflow_iff {c : Config} {f k : Nat} (hk : k ≤ 127) :
    convert c f k = some (.err .productOverflow) ↔ productOverflows c f = true := by
  rw [convert_of_key_le f hk]
  split
  next hover => simp [hover]
  next hfits => simp [hfits, narrow_ne_productOverflow]

/-- The guard of R83 fires exactly above `F_MAX` (R11): `floor(x / SCALE) < F` says `x < F * SCALE`. -/
theorem productOverflows_iff_fMax_lt {c : Config} (hscale : 1 ≤ c.scale) (f : Nat) :
    productOverflows c f = true ↔ c.fMax < f := by
  rw [productOverflows_eq, decide_eq_true_eq, Config.fMax, Nat.div_lt_iff_lt_mul hscale]

/-- The ceiling of the reference configuration (R11) is the same for both contracts. -/
theorem reference_fMax (v : Variant) : (Config.reference v).fMax = 4194303 := by
  cases v <;> rfl

/-! ### The statements -/

/-- Settles O10: R13 point by point, with (d) read off the table once (b) gives its length, and the check of the
configuration that stands first in the step and in both meanings. -/
theorem illFormedConfigurationIsRefused : Obligations.IllFormedConfigurationIsRefused := by
  intro c
  refine ⟨c.meetsR13_iff, ?_⟩
  rintro hbroken s rfl
  have hwf : s.cfg.wf = false := Config.wf_eq_false_of_meetsR13 hbroken
  exact ⟨step_of_not_wf hwf, exec_of_not_wf hwf⟩

/-- Settles O14: only the guard of R83 raises PRODUCT_OVERFLOW, and it fires exactly above the floor of R11. -/
theorem safeCeilingIsExact : Obligations.SafeCeilingIsExact := by
  refine ⟨fun c hwf f k hk => ?_, reference_fMax⟩
  have hscale : 1 ≤ c.scale := ((Config.wf_iff_facts c).mp hwf).scale_pos
  rw [convert_eq_productOverflow_iff hk, productOverflows_iff_fMax_lt hscale]

end Machine

end Sys2Proof
end

section
/-! PROOF. The statements about the state (spec/10_state.md): the configuration that no step changes (R31), the latches
`FAULTED` and `FAULT_CAUSE` (R27, R28), the invariant of a block that was reset, what an outcome depends on (R30), and
the reference constants (R25, R26). -/

namespace Sys2Proof

/-! ### The operands of a decoded word -/

@[simp] theorem decode_freq (v : Variant) (q : ReqWord) : (decode v q).freq = freqField q := by cases v <;> rfl

@[simp] theorem decode_key (v : Variant) (q : ReqWord) : (decode v q).key = keyField q := by cases v <;> rfl

/-! ### The reference constants -/

/-- The build named in R10 is well formed for both contracts, and so is the literal one. -/
theorem reference_literal_wf (v : Variant) : (Config.reference v).wf = true ∧ (Config.literal v).wf = true := by
  cases v with
  | fallible => decide
  | assertive => decide

/-- Each entry of R25 against its two half-integer neighbours, for the twelve places of the table. -/
theorem referenceTable_nearest :
    ∀ i ∈ List.range 12, ∀ e ∈ referenceTable[i]?,
      (2 * e - 1) ^ 12 < 2 ^ i * 2048 ^ 12 ∧ 2 ^ i * 2048 ^ 12 < (2 * e + 1) ^ 12 ∧ 1024 ≤ e := by
  decide

/-- Settles O12: the checks of the configuration, and the comparison of twelve entries. -/
theorem referenceTableIsNearest : Obligations.ReferenceTableIsNearest :=
  ⟨reference_literal_wf, referenceTable_nearest⟩

/-- Settles O13: the constants of the build, and one comparison of whole numbers on each side. -/
theorem referenceBaseIsNearest : Obligations.ReferenceBaseIsNearest :=
  ⟨rfl, rfl, by norm_num, by norm_num⟩

namespace Machine

/-! ### The latches as read -/

theorem bit_zero_ne_one {b : Bit} (h0 : b = 0) (h1 : b = 1) : False :=
  absurd (h0.symm.trans h1) (by decide)

theorem State.readFaulted_of_fallible {s : State} (h : s.cfg.variant = .fallible) : s.readFaulted = 0 := by
  rw [State.readFaulted, h, latchRead_fallible]

theorem State.readFaultCause_of_fallible {s : State} (h : s.cfg.variant = .fallible) : s.readFaultCause = 0 := by
  rw [State.readFaultCause, h, latchRead_fallible]

@[simp] theorem outputs_faulted (rst : Bit) (s : State) : (outputs rst s).faulted = s.readFaulted := rfl
@[simp] theorem outputs_faultCause (rst : Bit) (s : State) : (outputs rst s).faultCause = s.readFaultCause := rfl

/-- Settles O42: the two ports show the latches as read, which a FALLIBLE block hardwires to 0. -/
theorem fallibleLatchesReadZero : Obligations.FallibleLatchesReadZero := by
  intro s rst h
  rw [outputs_faulted, outputs_faultCause]
  exact ⟨State.readFaulted_of_fallible h, State.readFaultCause_of_fallible h⟩

/-- No cause has the code of NONE (R121). -/
theorem causeCode_ne_zero (c : Cause) : causeCode c ≠ 0 := by cases c <;> decide

/-! ### The end of a request -/

@[simp] theorem State.conclude_fault (s : State) (c : Cause) : s.conclude (.fault c) = s.raiseFault c := rfl

@[simp] theorem State.conclude_cfg (s : State) (v : Verdict) : (s.conclude v).cfg = s.cfg := by cases v <;> rfl
@[simp] theorem State.finish_cfg (s : State) (v : Verdict) : (s.finish v).cfg = s.cfg := by cases v <;> rfl

/-! ### What a request comes to -/

/-- Under a well-formed configuration the table read finds an entry for every key (R41). -/
theorem exists_tableRead {c : Config} (hw : c.wf = true) (k : Nat) : ∃ e, tableRead c (tableIndex k) = some e := by
  have hlen : c.expFrac.length = 12 := ((Config.wf_iff_facts c).mp hw).length_eq
  have hi : (tableIndex k).toNat < c.expFrac.length := by
    rw [tableIndex_toNat, hlen]
    exact Nat.mod_lt k (by decide)
  exact ⟨_, List.getElem?_eq_getElem hi⟩

/-- `Convert` answers for every pair of operands (R80). -/
theorem exists_convert {c : Config} (hw : c.wf = true) (f k : Nat) : ∃ r, convert c f k = some r := by
  obtain ⟨e, he⟩ := exists_tableRead hw k
  unfold convert
  split
  · exact ⟨_, rfl⟩
  · split
    · exact ⟨_, rfl⟩
    · exact ⟨_, by rw [he]; rfl⟩

/-- So every request comes to a response or to a fault (R65.5). -/
theorem exists_instrVerdict {c : Config} (hw : c.wf = true) (i : Instr) : ∃ v, instrVerdict c i = some v := by
  obtain ⟨r, hr⟩ := exists_convert hw i.freq.toNat i.key.toNat
  cases i with
  | periodForKeyFallible f k => exact ⟨fallibleVerdict r, congrArg (Option.map fallibleVerdict) hr⟩
  | periodForKeyAssertive f k => exact ⟨assertiveVerdict r, congrArg (Option.map assertiveVerdict) hr⟩

/-- A result of `Convert` has passed the narrowing check (R87). -/
theorem lt_of_convert_ok {c : Config} {f k p : Nat} (h : convert c f k = some (.ok p)) : p < 2 ^ c.outW := by
  unfold convert at h
  split at h
  · cases h
  · split at h
    · cases h
    · obtain ⟨e, -, hnarrow⟩ := Option.map_eq_some_iff.mp h
      obtain ⟨rfl, hfits⟩ := narrow_ok hnarrow
      exact Nat.lt_of_le_pred (Nat.two_pow_pos _) hfits

theorem legalRecord_okRecord {c : Config} {p : Nat} (h : p < 2 ^ c.outW) : legalRecord c (okRecord p) :=
  .inl ⟨rfl, rfl, h⟩

theorem legalRecord_absentRecord {c : Config} (hv : c.variant = .fallible) (e : Cause) :
    legalRecord c (absentRecord e) :=
  .inr ⟨hv, rfl, causeCode_ne_zero e, rfl⟩

/-- An instruction of the block's own contract answers with legal records only (R64): an absent result comes from
the FALLIBLE row alone. -/
theorem legalRecord_of_instrVerdict {c : Config} {i : Instr} {r : Response} (hv : i.variant = c.variant)
    (h : instrVerdict c i = some (.response r)) : legalRecord c r := by
  cases i with
  | periodForKeyFallible f k =>
    obtain ⟨conv, hconv, hverdict⟩ := Option.map_eq_some_iff.mp h
    cases conv with
    | ok p => cases hverdict; exact legalRecord_okRecord (lt_of_convert_ok hconv)
    | err e => cases hverdict; exact legalRecord_absentRecord hv.symm e
  | periodForKeyAssertive f k =>
    obtain ⟨conv, hconv, hverdict⟩ := Option.map_eq_some_iff.mp h
    cases conv with
    | ok p => cases hverdict; exact legalRecord_okRecord (lt_of_convert_ok hconv)
    | err e => cases hverdict

/-- A fault comes from the ASSERTIVE row, on operands that `Convert` rejects with that cause (R91, R124). -/
theorem instrVerdict_eq_fault {c : Config} {i : Instr} {e : Cause} (h : instrVerdict c i = some (.fault e)) :
    i.variant = .assertive ∧ convert c i.freq.toNat i.key.toNat = some (.err e) := by
  cases i with
  | periodForKeyFallible f k =>
    obtain ⟨conv, -, hverdict⟩ := Option.map_eq_some_iff.mp h
    obtain ⟨r, hr⟩ := fallibleVerdict_response conv
    cases hr.symm.trans hverdict
  | periodForKeyAssertive f k =>
    obtain ⟨conv, hconv, hverdict⟩ := Option.map_eq_some_iff.mp h
    cases conv with
    | ok p => cases hverdict
    | err e' => cases hverdict; exact ⟨rfl, hconv⟩

/-! ### The configuration -/

theorem OfferTo.cfg_eq {s t : State} (h : OfferTo s t) : t.cfg = s.cfg := by
  cases h with
  | idle | held => rfl
  | run q rest v => exact State.conclude_cfg _ v

theorem EdgeTo.cfg_eq {p : PortIn} {s t : State} (h : EdgeTo p s t) : t.cfg = s.cfg := by
  cases h with
  | finish q left v => exact State.finish_cfg s v
  | _ => rfl

/-- Settles O55: no operation a step is made of writes the configuration. -/
theorem configurationNeverChanges : Obligations.ConfigurationNeverChanges := by
  intro s t h
  obtain ⟨-, hto⟩ := step_next h
  cases hto with
  | request _ hoffer => exact hoffer.cfg_eq
  | reset => rfl
  | edge p _ hedge => exact hedge.cfg_eq

/-! ### The invariant, operation by operation -/

namespace State.Inv

variable {s : State}

/-- The invariant does not speak of the environment's requests and events, nor of the count of steps. -/
theorem of_block_eq {t : State} (h : s.Inv) (hcfg : t.cfg = s.cfg) (hfaulted : t.faulted = s.faulted)
    (hcause : t.faultCause = s.faultCause) (hslot : t.slot = s.slot) (hdelivered : t.delivered = s.delivered) :
    t.Inv := by
  obtain ⟨hagrees, hidle, hlegal, hrecords⟩ := h
  constructor
  · simpa only [State.readFaultCause, State.readFaulted, hcfg, hfaulted, hcause] using hagrees
  · simpa only [State.readFaulted, hcfg, hfaulted, hslot] using hidle
  · rwa [hcfg, hslot]
  · rwa [hcfg, hdelivered]

theorem takeEvent (h : s.Inv) : s.takeEvent.Inv := h.of_block_eq rfl rfl rfl rfl rfl

theorem setRequests (h : s.Inv) (qs : List ReqWord) : { s with requests := qs }.Inv :=
  h.of_block_eq rfl rfl rfl rfl rfl

theorem resetEdge (h : s.Inv) : s.resetEdge.Inv where
  causeAgrees := by rw [resetEdge_readFaultCause, resetEdge_readFaulted]; decide
  faultedIdle := fun _ => rfl
  slotLegal := trivial
  deliveredLegal := h.deliveredLegal

theorem await (h : s.Inv) (hf : s.readFaulted = 0) (q : ReqWord) {left : Nat} (hpos : 1 ≤ left)
    (hle : left ≤ s.cfg.latency) : (s.await q left).Inv where
  causeAgrees := h.causeAgrees
  faultedIdle := fun hf' => (bit_zero_ne_one hf hf').elim
  slotLegal := ⟨hpos, hle⟩
  deliveredLegal := h.deliveredLegal

theorem present (h : s.Inv) (hf : s.readFaulted = 0) {r : Response} (hr : legalRecord s.cfg r) :
    (s.present r).Inv where
  causeAgrees := h.causeAgrees
  faultedIdle := fun hf' => (bit_zero_ne_one hf hf').elim
  slotLegal := hr
  deliveredLegal := h.deliveredLegal

theorem deliver (h : s.Inv) {r : Response} (hr : legalRecord s.cfg r) : (s.deliver r).Inv where
  causeAgrees := h.causeAgrees
  faultedIdle := fun _ => rfl
  slotLegal := trivial
  deliveredLegal := by
    intro x hx
    rw [deliver_delivered, List.mem_append, List.mem_singleton] at hx
    obtain hold | rfl := hx
    · exact h.deliveredLegal x hold
    · exact hr

/-- Taking a fault writes both latches at once, and a cause is never NONE (R28, R124). -/
theorem raiseFault (h : s.Inv) (c : Cause) : (s.raiseFault c).Inv where
  causeAgrees := by
    rw [raiseFault_readFaultCause, raiseFault_readFaulted]
    cases s.cfg.variant with
    | fallible => exact iff_of_true rfl rfl
    | assertive => exact iff_of_false (causeCode_ne_zero c) (by decide)
  faultedIdle := fun _ => rfl
  slotLegal := trivial
  deliveredLegal := h.deliveredLegal

/-- The end of a transaction (R92), for an instruction of the block's own contract. -/
theorem conclude (h : s.Inv) {i : Instr} {v : Verdict} (hi : i.variant = s.cfg.variant)
    (hv : instrVerdict s.cfg i = some v) : (s.conclude v).Inv := by
  cases v with
  | response r => exact h.deliver (legalRecord_of_instrVerdict hi hv)
  | fault c => exact h.raiseFault c

/-- The end of a request's work at the ports (R65.3, R65.4). -/
theorem finish (h : s.Inv) (hf : s.readFaulted = 0) {i : Instr} {v : Verdict} (hi : i.variant = s.cfg.variant)
    (hv : instrVerdict s.cfg i = some v) : (s.finish v).Inv := by
  cases v with
  | response r => exact h.present hf (legalRecord_of_instrVerdict hi hv)
  | fault c => exact h.raiseFault c

theorem offerTo {t : State} (h : s.Inv) (hto : OfferTo s t) : t.Inv := by
  cases hto with
  | idle | held => exact h
  | run q rest v _ _ hv => exact (h.setRequests rest).conclude (decode_variant _ q) hv

/-- A slot newly filled is `LATENCY` edges away, which R65.3 puts at one or more; an edge counts it down to 1 and no
further. -/
theorem edgeTo {p : PortIn} {t : State} (h : s.Inv) (hlat : 1 ≤ s.cfg.latency) (hto : EdgeTo p s t) : t.Inv := by
  have hlegal : legalSlot s.cfg s.slot := h.slotLegal
  cases hto with
  | reset => exact h.resetEdge
  | frozen | idle | hold => exact h
  | accept _ hf => exact h.await hf _ hlat le_rfl
  | wait q left _ hf hs hlt =>
    rw [hs] at hlegal
    exact h.await hf q (Nat.le_sub_one_of_lt hlt) ((Nat.sub_le _ _).trans hlegal.2)
  | finish q left v _ hf _ _ hv => exact h.finish hf (decode_variant _ q) hv
  | deliver r _ _ hs =>
    rw [hs] at hlegal
    exact h.deliver hlegal

end State.Inv

/-- Settles O57: the operations of the three events keep the invariant; the configuration of a block that steps is well
formed, so its `LATENCY` is at least 1. -/
theorem stepKeepsTheInvariant : Obligations.StepKeepsTheInvariant := by
  intro s t hinv h
  obtain ⟨hwf, hto⟩ := step_next h
  cases hto with
  | request _ hoffer => exact hinv.takeEvent.offerTo hoffer
  | reset => exact hinv.takeEvent.resetEdge
  | edge p _ hedge => exact hinv.takeEvent.edgeTo ((Config.wf_iff_facts _).mp hwf).latency_pos hedge

/-! ### How `FAULTED` changes -/

/-- An offer that sets `FAULTED` ran the oldest request waiting, which came to a fault. -/
theorem OfferTo.raises {s t : State} (h : OfferTo s t) (hf : s.readFaulted = 0) (ht : t.readFaulted = 1) :
    ∃ q rest c, s.requests = q :: rest ∧ instrVerdict s.cfg (decode s.cfg.variant q) = some (.fault c) ∧
      t = State.raiseFault c { s with requests := rest } := by
  cases h with
  | idle | held => exact (bit_zero_ne_one hf ht).elim
  | run q rest v hq _ hv =>
    cases v with
    | response r => exact (bit_zero_ne_one hf ht).elim
    | fault c => exact ⟨q, rest, c, hq, hv, rfl⟩

/-- An edge that sets `FAULTED` ended the work of the request in flight, which came to a fault. -/
theorem EdgeTo.raises {p : PortIn} {s t : State} (h : EdgeTo p s t) (hf : s.readFaulted = 0)
    (ht : t.readFaulted = 1) :
    ∃ q left c, s.slot = .waiting q left ∧ instrVerdict s.cfg (decode s.cfg.variant q) = some (.fault c) ∧
      t = s.raiseFault c := by
  cases h with
  | reset => exact (bit_zero_ne_one (State.resetEdge_readFaulted s) ht).elim
  | finish q left v _ _ hs _ hv =>
    cases v with
    | response r => exact (bit_zero_ne_one hf ht).elim
    | fault c => exact ⟨q, left, c, hs, hv, rfl⟩
  | _ => exact (bit_zero_ne_one hf ht).elim

/-- No offer changes a faulted block: every request is held (R125). -/
theorem OfferTo.eq_of_faulted {s t : State} (h : OfferTo s t) (hf : s.readFaulted = 1) : t = s := by
  cases h with
  | idle | held => rfl
  | run q rest v _ hr => exact (bit_zero_ne_one ((State.ready_iff s).mp hr).1 hf).elim

/-- An edge that clears `FAULTED` is a reset (R125). -/
theorem EdgeTo.rst_of_clears {p : PortIn} {s t : State} (h : EdgeTo p s t) (hf : s.readFaulted = 1)
    (ht : t.readFaulted = 0) : p.rst = 1 := by
  cases h with
  | reset hrst => exact hrst
  | frozen => exact (bit_zero_ne_one ht hf).elim
  | accept _ hf' | idle _ hf' | wait _ _ _ hf' | finish _ _ _ _ hf' | deliver _ _ hf' | hold _ _ hf' =>
    exact (bit_zero_ne_one hf' hf).elim

/-- A request that comes to a fault: the block is an ASSERTIVE one, `Convert` rejects the operands, and the cause is
what taking the fault stores (R28, R124). -/
theorem assertive_of_fault {s : State} {q : ReqWord} {e : Cause}
    (h : instrVerdict s.cfg (decode s.cfg.variant q) = some (.fault e)) :
    s.cfg.variant = .assertive ∧ convert s.cfg (freqField q).toNat (keyField q).toNat = some (.err e) ∧
      (s.raiseFault e).faultCause = causeCode e := by
  obtain ⟨hv, hconv⟩ := instrVerdict_eq_fault h
  rw [decode_variant] at hv
  rw [decode_freq, decode_key] at hconv
  refine ⟨hv, hconv, ?_⟩
  rw [State.raiseFault_faultCause, hv, latchWrite_assertive]

/-- Settles O43: of what the three events can do, only the fault of the request offered or in flight sets `FAULTED`,
and only a reset clears it. -/
theorem faultLatchIsSetAndClearedOnlySo : Obligations.FaultLatchIsSetAndClearedOnlySo := by
  intro s t h
  obtain ⟨-, hto⟩ := step_next h
  cases hto with
  | request hev hoffer =>
    constructor
    · intro hf ht
      obtain ⟨q, rest, c, hq, hv, rfl⟩ := hoffer.raises hf ht
      obtain ⟨hassertive, hconv, hcause⟩ := assertive_of_fault hv
      exact ⟨hassertive, q, c, .inl (congrArg List.head? hq), hconv, hcause, rfl, rfl⟩
    · intro hf ht
      rw [hoffer.eq_of_faulted hf] at ht
      exact (bit_zero_ne_one ht hf).elim
  | reset hev =>
    refine ⟨fun _ ht => (bit_zero_ne_one (State.resetEdge_readFaulted _) ht).elim, fun _ _ => ?_⟩
    rw [hev]
    exact not_false
  | edge p hev hedge =>
    constructor
    · intro hf ht
      obtain ⟨q, left, c, hs, hv, rfl⟩ := hedge.raises hf ht
      obtain ⟨hassertive, hconv, hcause⟩ := assertive_of_fault hv
      exact ⟨hassertive, q, c, .inr ⟨left, hs⟩, hconv, hcause, rfl, rfl⟩
    · intro hf ht hno
      rw [hev] at hno
      exact bit_zero_ne_one hno (hedge.rst_of_clears hf ht)

/-! ### What an outcome depends on -/

/-- Settles O34: both blocks are ready and the verdict is a function of the configuration and the instruction, so both
conclude with the same one. -/
theorem outcomeDependsOnRequestOnly : Obligations.OutcomeDependsOnRequestOnly := by
  intro i s s' hcfg hwf hi hf hf' hs hs'
  obtain ⟨v, hv⟩ := exists_instrVerdict hwf i
  have hvar : s.cfg.variant = i.variant := (Laws.Operands.wf_iff i _).mp hi
  have hexec : exec i s = .next (s.conclude v) := exec_of_ready hwf hvar ((State.ready_iff s).mpr ⟨hf, hs⟩) hv
  have hexec' : exec i s' = .next (s'.conclude v) :=
    exec_of_ready (hcfg ▸ hwf) (hcfg ▸ hvar) ((State.ready_iff s').mpr ⟨hf', hs'⟩) (hcfg ▸ hv)
  cases v with
  | response r =>
    exact ⟨_, _, [r], hexec, hexec', rfl, rfl, hf.trans hf'.symm, fun h1 => (bit_zero_ne_one hf h1).elim,
      fun _ => rfl⟩
  | fault c =>
    have hassertive : s.cfg.variant = .assertive := hvar.trans (instrVerdict_eq_fault hv).1
    have hfaulted : (s.raiseFault c).readFaulted = 1 := by
      rw [State.raiseFault_readFaulted, hassertive, latchRead_assertive]
    refine ⟨_, _, [], hexec, hexec', (List.append_nil _).symm, (List.append_nil _).symm, ?_, fun _ => ⟨?_, rfl⟩,
      fun h0 => (bit_zero_ne_one h0 hfaulted).elim⟩
    · simp only [State.conclude_fault, State.raiseFault_readFaulted, hcfg]
    · simp only [State.conclude_fault, State.raiseFault_readFaultCause, hcfg]

end Machine

end Sys2Proof
end

section
/-! PROOF. The statement about the constant table (spec/20_memory.md): what a read answers for the index a key forms
(R41), and for an index that no key forms (R42). -/

namespace Sys2Proof.Machine

/-- The index a key forms reads the entry of the key's semitone, in any table (R41). -/
theorem tableRead_tableIndex (c : Config) (k : Nat) : tableRead c (tableIndex k) = c.expFrac[k % 12]? := by
  rw [tableRead, tableIndex_toNat]

/-- The twelve entries of a well-formed table are at 0 to 11, so a read answers nothing exactly from 12 on (R42). -/
theorem tableRead_eq_none_iff {c : Config} (hw : c.wf = true) (i : TableIndex) :
    tableRead c i = none ↔ 12 ≤ i.toNat := by
  have hlen : c.expFrac.length = 12 := ((Config.wf_iff_facts c).mp hw).length_eq
  rw [tableRead, List.getElem?_eq_none_iff, hlen]

/-- Settles O11: a key's index is its semitone, below 12, where every read finds an entry; from 12 on none does. -/
theorem tableReadFindsTheSemitone : Obligations.TableReadFindsTheSemitone := by
  intro c hw
  refine ⟨fun k => ?_, fun i hi => (tableRead_eq_none_iff hw i).mpr hi⟩
  have hindex : (tableIndex k).toNat = k % 12 := tableIndex_toNat k
  have hsemitone : k % 12 < 12 := Nat.mod_lt k (by decide)
  obtain ⟨e, he⟩ := exists_tableRead hw k
  exact ⟨hindex, hindex ▸ Nat.le_of_lt_succ hsemitone, e, he, tableRead_tableIndex c k ▸ he⟩

end Sys2Proof.Machine
end

section
/-! PROOF. The statements about the request word (spec/30_encoding.md): its layout (R61, R62), decoder and encoder as
inverses of each other (R63, R66, R67), the worked encodings (R69), the operands that a line spells (R68), and the
packed response (R64). -/

namespace Sys2Proof

/-! ### The two fields of a word, as numbers -/

theorem bitField_zero (v hi : Nat) : bitField v hi 0 = v % 2 ^ (hi + 1) := by
  simp [bitField]

theorem bitField_self (v i : Nat) : bitField v i i = v / 2 ^ i % 2 := by
  simp [bitField]

theorem freqField_toNat (q : ReqWord) : (freqField q).toNat = bitField q.toNat 31 0 := by
  rw [freqField, BitVec.extractLsb'_toNat, Nat.shiftRight_zero, bitField_zero]

theorem keyField_toNat (q : ReqWord) : (keyField q).toNat = bitField q.toNat 47 32 := by
  rw [keyField, BitVec.extractLsb'_toNat, Nat.shiftRight_eq_div_pow, bitField]

/-- Concatenation of the fields is the encoding function of R61. -/
theorem requestWord_toNat (f : Freq) (k : Key) : (requestWord f k).toNat = k.toNat * 2 ^ 32 + f.toNat := by
  rw [requestWord, BitVec.toNat_append, ← Nat.shiftLeft_add_eq_or_of_lt f.isLt, Nat.shiftLeft_eq]

theorem bitField_requestWord_freq (f : Freq) (k : Key) : bitField (requestWord f k).toNat 31 0 = f.toNat := by
  rw [bitField_zero, requestWord_toNat]
  exact Nat.mul_add_mod_of_lt f.isLt

theorem bitField_requestWord_key (f : Freq) (k : Key) : bitField (requestWord f k).toNat 47 32 = k.toNat := by
  have hf : f.toNat < 2 ^ 32 := f.isLt
  have hk : k.toNat < 2 ^ 16 := k.isLt
  rw [bitField, requestWord_toNat]
  omega

/-! ### Fields of a word and word of the fields -/

@[simp] theorem freqField_requestWord (f : Freq) (k : Key) : freqField (requestWord f k) = f :=
  BitVec.eq_of_toNat_eq ((freqField_toNat _).trans (bitField_requestWord_freq f k))

@[simp] theorem keyField_requestWord (f : Freq) (k : Key) : keyField (requestWord f k) = k :=
  BitVec.eq_of_toNat_eq ((keyField_toNat _).trans (bitField_requestWord_key f k))

/-- Bits 47:32 and bits 31:0 are all of a word. -/
@[simp] theorem requestWord_fields (q : ReqWord) : requestWord (freqField q) (keyField q) = q := by
  apply BitVec.eq_of_toNat_eq
  have hq : q.toNat < 2 ^ 48 := q.isLt
  rw [requestWord_toNat, keyField_toNat, freqField_toNat, bitField_zero, bitField]
  omega

/-! ### Decoder and encoder -/

theorem Instr.variant_of_wf {v : Variant} {i : Instr} (h : i.wf v = true) : i.variant = v :=
  ((Laws.Operands.wf_iff i v).mp h).symm

theorem decode_encode (i : Instr) : decode i.variant (encode i) = i := by
  cases i with
  | periodForKeyFallible f k => simp [decode, encode, Instr.variant, Instr.freq, Instr.key]
  | periodForKeyAssertive f k => simp [decode, encode, Instr.variant, Instr.freq, Instr.key]

theorem encode_decode (v : Variant) (q : ReqWord) : encode (decode v q) = q := by
  rw [encode, decode_freq, decode_key, requestWord_fields]

theorem decode_wf (v : Variant) (q : ReqWord) : (decode v q).wf v = true :=
  (Laws.Operands.wf_iff _ v).mpr (Machine.decode_variant v q).symm

/-- The number of a request word, taken as 48 bits, decodes as the word does. -/
theorem decodeBits_toNat (v : Variant) (q : ReqWord) : decodeBits v 48 q.toNat = .ok (decode v q) :=
  decodeBits_eq_ok.mpr ⟨rfl, q.isLt, by rw [BitVec.ofNat_toNat, BitVec.setWidth_eq]⟩

/-- Settles O1: the row is the variant's, and the fields of the concatenated word are the operands. -/
theorem decodeOfEncode : Obligations.DecodeOfEncode := by
  intro v i hi
  obtain rfl : i.variant = v := Instr.variant_of_wf hi
  exact ⟨decode_encode i, by rw [decodeBits_toNat, decode_encode]⟩

/-- Settles O2: the two fields are all of the word. -/
theorem encodeOfDecode : Obligations.EncodeOfDecode :=
  fun v q => ⟨encode_decode v q, decode_wf v q⟩

/-- Settles O3: the number of the word and its two fields, for the operands of an instruction and of the ports. -/
theorem requestWordLayout : Obligations.RequestWordLayout :=
  ⟨fun i => ⟨bitField_requestWord_key i.freq i.key, bitField_requestWord_freq i.freq i.key,
      requestWord_toNat i.freq i.key⟩,
    fun p => requestWord_toNat p.reqFreq p.reqKey, rfl⟩

/-- Settles O4: the operands are the fields of the word, and their ranges those of every instruction's operands. -/
theorem operandsOfEveryWord : Obligations.OperandsOfEveryWord := by
  intro v q
  obtain ⟨hfreq, hkey⟩ := Laws.Operands.operand_ranges (decode v q)
  refine ⟨?_, hfreq, ?_, hkey⟩
  · rw [decode_freq, freqField_toNat]
  · rw [decode_key, keyField_toNat]

/-- Settles O5: the decoder's two cases are the two rows. -/
theorem everyWordIsTheVariantsRow : Obligations.EveryWordIsTheVariantsRow :=
  fun q => ⟨⟨freqField q, keyField q, rfl⟩, ⟨freqField q, keyField q, rfl⟩⟩

/-- Settles O6: every number of 48 bits is a request word, and no string of another length is one. -/
theorem onlyFortyEightBitsDecode : Obligations.OnlyFortyEightBitsDecode := by
  intro v nbits w hw
  constructor
  · rintro ⟨i, hi⟩
    exact (decodeBits_eq_ok.mp hi).1
  · rintro rfl
    exact ⟨_, decodeBits_eq_ok.mpr ⟨rfl, hw, rfl⟩⟩

/-- A word and the operands that it concatenates are each other's code, in both rows. -/
theorem decode_and_encode_of_requestWord {f : Freq} {k : Key} {q : ReqWord} (h : requestWord f k = q) :
    decode .fallible q = .periodForKeyFallible f k ∧ decode .assertive q = .periodForKeyAssertive f k ∧
    encode (.periodForKeyFallible f k) = q ∧ encode (.periodForKeyAssertive f k) = q := by
  subst h
  exact ⟨decode_encode (.periodForKeyFallible f k), decode_encode (.periodForKeyAssertive f k), rfl, rfl⟩

/-- Settles O7: each word of the list is the concatenation of its operands. -/
theorem workedEncodings : Obligations.WorkedEncodings := by
  intro x hx
  refine decode_and_encode_of_requestWord ?_
  fin_cases hx <;> rfl

namespace Machine

/-! ### The operands that a line spells -/

theorem spellRequest_of_le {f k : Nat} (hf : f ≤ 2 ^ 32 - 1) (hk : k ≤ 65535) :
    spellRequest f k = some (requestWord (BitVec.ofNat 32 f) (BitVec.ofNat 16 k)) := by
  rw [spellRequest, if_neg (Nat.not_lt.mpr hf), if_neg (Nat.not_lt.mpr hk)]

theorem le_of_spellRequest {f k : Nat} {q : ReqWord} (h : spellRequest f k = some q) :
    f ≤ 2 ^ 32 - 1 ∧ k ≤ 65535 := by
  unfold spellRequest at h
  split at h
  · cases h
  · split at h
    · cases h
    · exact ⟨Nat.not_lt.mp ‹_›, Nat.not_lt.mp ‹_›⟩

/-- Operands in range go into the fields unchanged. -/
theorem requestWord_ofNat_toNat {f k : Nat} (hf : f ≤ 2 ^ 32 - 1) (hk : k ≤ 65535) :
    (requestWord (BitVec.ofNat 32 f) (BitVec.ofNat 16 k)).toNat = k * 2 ^ 32 + f := by
  rw [requestWord_toNat, BitVec.toNat_ofNat, BitVec.toNat_ofNat, Nat.mod_eq_of_lt (by omega),
    Nat.mod_eq_of_lt (by omega)]

/-- Settles O8: only operands in range pass both checks, and the word that passes is the one with the number of R61. -/
theorem spelledRequestsAreInRange : Obligations.SpelledRequestsAreInRange := by
  intro f k q
  constructor
  · intro h
    obtain ⟨hf, hk⟩ := le_of_spellRequest h
    obtain rfl : _ = q := Option.some.inj ((spellRequest_of_le hf hk).symm.trans h)
    exact ⟨hf, hk, requestWord_ofNat_toNat hf hk⟩
  · rintro ⟨hf, hk, hq⟩
    rw [spellRequest_of_le hf hk]
    exact congrArg some (BitVec.eq_of_toNat_eq ((requestWord_ofNat_toNat hf hk).trans hq.symm))

/-! ### The packed response -/

/-- A record that fits its fields fits in `OUT_W + 3` bits (R64). -/
theorem packRecord_toNat {outW : Nat} {r : Response} (h : r.period < 2 ^ outW) :
    (packRecord outW r).toNat = r.ok.toNat * 2 ^ (outW + 2) + r.cause.toNat * 2 ^ outW + r.period := by
  have hok : r.ok.toNat < 2 := r.ok.isLt
  have hcause : r.cause.toNat < 4 := r.cause.isLt
  have hokPart : r.ok.toNat * 2 ^ (outW + 2) ≤ 1 * 2 ^ (outW + 2) := Nat.mul_le_mul_right _ (by omega)
  have hcausePart : r.cause.toNat * 2 ^ outW ≤ 3 * 2 ^ outW := Nat.mul_le_mul_right _ (by omega)
  rw [packRecord, BitVec.toNat_ofNat]
  apply Nat.mod_eq_of_lt
  have hsplit : 2 ^ (outW + 2) = 2 ^ outW * 4 ∧ 2 ^ (outW + 3) = 2 ^ outW * 8 := ⟨Nat.pow_add .., Nat.pow_add ..⟩
  omega

/-- Three numbers stacked on each other, the lowest below `b` and the middle one below 4, come back by division. -/
theorem stacked_fields {b ok cause period : Nat} (hcause : cause < 4) (hperiod : period < b) :
    (ok * (b * 4) + cause * b + period) / (b * 4) = ok ∧
    (ok * (b * 4) + cause * b + period) / b % 4 = cause ∧
    (ok * (b * 4) + cause * b + period) % b = period := by
  have hb : 0 < b := Nat.zero_lt_of_lt hperiod
  have hsum : ok * (b * 4) + cause * b + period = b * (ok * 4 + cause) + period := by ring
  have hdiv : (ok * (b * 4) + cause * b + period) / b = ok * 4 + cause := by
    rw [hsum, Nat.mul_add_div hb, Nat.div_eq_of_lt hperiod, Nat.add_zero]
  refine ⟨?_, ?_, ?_⟩
  · rw [← Nat.div_div_eq_div_mul, hdiv]
    omega
  · rw [hdiv]
    omega
  · rw [hsum, Nat.mul_add_mod, Nat.mod_eq_of_lt hperiod]

/-- Settles O9: the packed number stacks the three fields, and each comes back from its place. -/
theorem packedRecordRoundTrip : Obligations.PackedRecordRoundTrip := by
  intro outW r houtW hperiod
  have htoNat := packRecord_toNat hperiod
  refine ⟨htoNat, ?_⟩
  obtain ⟨hok, hcause, hlow⟩ := stacked_fields (ok := r.ok.toNat) r.cause.isLt hperiod
  have hwidth : outW + 1 - outW + 1 = 2 := by omega
  have hbits : outW - 1 + 1 = outW := Nat.sub_add_cancel houtW
  have hpow : 2 ^ (outW + 2) = 2 ^ outW * 4 := Nat.pow_add 2 outW 2
  rw [hpow] at htoNat
  rw [unpackRecord, bitField_self, bitField_zero, bitField, htoNat, hwidth, hbits, hpow, hok, hlow,
    show 2 ^ 2 = 4 from rfl, hcause, Nat.mod_eq_of_lt (show r.ok.toNat < 2 from r.ok.isLt)]
  simp

end Machine
end Sys2Proof
end

section
/-! PROOF. The statements about the transport of requests and responses (spec/30_encoding.md): what the response ports
carry (R60, R64), the handshakes of one edge (R65), the queue of requests (R65.5), and the clocked block as a
refinement of the transaction (R65, R92). -/

namespace Sys2Proof.Machine

/-! ### The contract of an instruction -/

theorem exec_of_other_contract {i : Instr} {s : State} (hw : s.cfg.wf = true) (hv : s.cfg.variant ≠ i.variant) :
    exec i s = .refused .otherContract := by
  simp [exec_eq_transact, transact, hw, hv]

/-! ### A block with a well-formed configuration always goes on -/

/-- Every request has a verdict, so no edge stops on the table read. -/
theorem exists_clockEdge {s : State} (hw : s.cfg.wf = true) (p : PortIn) : ∃ t, clockEdge p s = .next t := by
  unfold clockEdge
  split
  · exact ⟨_, rfl⟩
  · split
    · exact ⟨_, rfl⟩
    · unfold workingEdge
      split
      · exact ⟨_, rfl⟩
      · rename_i q left _
        split
        · exact ⟨_, rfl⟩
        · obtain ⟨v, hv⟩ := exists_instrVerdict hw (decode s.cfg.variant q)
          exact ⟨s.finish v, by rw [finishRequest, hv]⟩
      · exact ⟨_, rfl⟩

/-- The oldest request waiting, in a block that is ready, concludes with its verdict. -/
theorem offerRequest_of_verdict {s : State} {q : ReqWord} {rest : List ReqWord} {v : Verdict}
    (hw : s.cfg.wf = true) (hr : s.ready = true) (hq : s.requests = q :: rest)
    (hv : instrVerdict s.cfg (decode s.cfg.variant q) = some v) :
    offerRequest s = .next (State.conclude { s with requests := rest } v) := by
  rw [offerRequest_of_ready hq hr]
  exact exec_of_ready (s := { s with requests := rest }) hw (decode_variant _ q).symm hr hv

theorem exists_offerRequest {s : State} (hw : s.cfg.wf = true) : ∃ t, offerRequest s = .next t := by
  cases hr : s.ready with
  | false => exact ⟨s, offerRequest_of_not_ready hr⟩
  | true =>
    cases hq : s.requests with
    | nil => exact ⟨s, by rw [offerRequest, hq]⟩
    | cons q rest =>
      obtain ⟨v, hv⟩ := exists_instrVerdict hw (decode s.cfg.variant q)
      exact ⟨_, offerRequest_of_verdict hw hr hq hv⟩

theorem exists_step {s : State} (hw : s.cfg.wf = true) : ∃ t, step s = .next t := by
  rw [step_of_wf hw]
  cases s.nextEvent with
  | request => exact exists_offerRequest hw
  | reset => exact ⟨_, rfl⟩
  | edge p => exact exists_clockEdge (s := s.takeEvent) hw p

/-- Settles O33: the frame of both instructions refuses the other row; a step is refused for its configuration, or
answers a next state. -/
theorem otherContractHasNoMeaning : Obligations.OtherContractHasNoMeaning := by
  constructor
  · intro i s hw hi
    refine exec_of_other_contract hw fun hv => ?_
    rw [(Laws.Operands.wf_iff i _).mpr hv] at hi
    cases hi
  · intro s h
    cases hw : s.cfg.wf with
    | false => cases (step_of_not_wf hw).symm.trans h
    | true =>
      obtain ⟨t, ht⟩ := exists_step hw
      cases ht.symm.trans h

/-! ### The records a step delivers -/

theorem State.conclude_delivered_cases (s : State) (v : Verdict) :
    (s.conclude v).delivered = s.delivered ∨
      ∃ r, (s.conclude v).delivered = s.delivered ++ [r] ∧ (s.conclude v).slot = .empty := by
  cases v with
  | response r => exact .inr ⟨r, rfl, rfl⟩
  | fault c => exact .inl rfl

@[simp] theorem State.finish_delivered (s : State) (v : Verdict) : (s.finish v).delivered = s.delivered := by
  cases v <;> rfl

theorem OfferTo.delivered_cases {s t : State} (h : OfferTo s t) :
    t.delivered = s.delivered ∨ ∃ r, t.delivered = s.delivered ++ [r] ∧ t.slot = .empty := by
  cases h with
  | idle | held => exact .inl rfl
  | run q rest v => exact State.conclude_delivered_cases _ v

/-- An edge delivers nothing but the record presented, where the requester takes it (R65.3). -/
theorem EdgeTo.delivered_cases {p : PortIn} {s t : State} (h : EdgeTo p s t) :
    t.delivered = s.delivered ∨
      deliversAt p s ∧ ∃ r, t.delivered = s.delivered ++ [r] ∧ t.slot = .empty := by
  cases h with
  | deliver r hrst hf hs hready =>
    exact .inr ⟨⟨hready, rspValid_eq_one.mpr ⟨r, presented_eq_some.mpr ⟨hrst, hf, hs⟩⟩⟩, r, rfl, rfl⟩
  | finish q left v => exact .inl (State.finish_delivered s v)
  | _ => exact .inl rfl

/-- Settles O56: only the end of a transaction and the response handshake deliver, one record each; what sets `FAULTED`
is the taking of a fault, which delivers none. -/
theorem atMostOneResponsePerStep : Obligations.AtMostOneResponsePerStep := by
  intro s t h
  obtain ⟨-, hto⟩ := step_next h
  cases hto with
  | request _ hoffer =>
    refine ⟨hoffer.delivered_cases, fun hf ht => ?_⟩
    obtain ⟨q, rest, c, -, -, rfl⟩ := hoffer.raises hf ht
    rfl
  | reset => exact ⟨.inl rfl, fun _ _ => rfl⟩
  | edge p _ hedge =>
    refine ⟨hedge.delivered_cases.imp_right And.right, fun hf ht => ?_⟩
    obtain ⟨q, left, c, -, -, rfl⟩ := hedge.raises hf ht
    rfl

/-! ### The response ports -/

@[simp] theorem outputs_rspPeriod (rst : Bit) (s : State) :
    (outputs rst s).rspPeriod = (shownRecord rst s).period := rfl

/-- `rsp_valid` in terms of the state (R65.3, R125, R140). -/
theorem rspValid_iff {rst : Bit} {s : State} :
    rspValid rst s = 1 ↔ rst = 0 ∧ s.readFaulted = 0 ∧ ∃ r, s.slot = .presenting r := by
  simp only [rspValid_eq_one, presented_eq_some, exists_and_left]

/-- While `rsp_valid` is 1 the ports carry the record in the slot (R64). -/
theorem portsCarry_of_rspValid {rst : Bit} {s : State} {r : Response} (hs : s.slot = .presenting r)
    (h : rspValid rst s = 1) : portsCarry (outputs rst s) r := by
  obtain ⟨hrst, hf, -⟩ := rspValid_iff.mp h
  exact portsCarry_of_presented (presented_eq_some.mpr ⟨hrst, hf, hs⟩)

/-- Settles O59: a response is presented in exactly these cycles, and the ports then show it. -/
theorem responsePortsCarryTheRecord : Obligations.ResponsePortsCarryTheRecord :=
  fun _ _ => ⟨rspValid_iff, fun _ hs hvalid => portsCarry_of_rspValid hs hvalid⟩

theorem period_lt_of_legalRecord {c : Config} {r : Response} (h : legalRecord c r) : r.period < 2 ^ c.outW := by
  obtain ⟨-, -, hlt⟩ | ⟨-, -, -, hzero⟩ := h
  · exact hlt
  · rw [hzero]
    exact Nat.two_pow_pos _

theorem unpresentedRecord_period_lt (s : State) : (unpresentedRecord s).period < 2 ^ s.cfg.outW :=
  Nat.mod_lt _ (Nat.two_pow_pos _)

/-- Settles O53: a record presented is the slot's, legal by the invariant; a free value is cut to the port. -/
theorem shownPeriodFitsThePort : Obligations.ShownPeriodFitsThePort := by
  intro s rst hinv
  rw [outputs_rspPeriod]
  cases hp : presented rst s with
  | none =>
    rw [shownRecord, hp]
    exact unpresentedRecord_period_lt s
  | some r =>
    obtain ⟨-, -, hs⟩ := presented_eq_some.mp hp
    have hlegal : legalSlot s.cfg s.slot := hinv.slotLegal
    rw [hs] at hlegal
    rw [shownRecord_of_presented hp]
    exact period_lt_of_legalRecord hlegal

/-! ### One edge outside reset, slot by slot -/

section Edge

variable {p : PortIn} {s : State}

theorem reqReady_iff {rst : Bit} : reqReady rst s = 1 ↔ s.readFaulted = 0 ∧ s.slot = .empty ∧ rst = 0 := by
  rw [reqReady, ← and_assoc, ← State.ready_iff]
  simp

/-- The edge accepts the request at the ports (R65.2). -/
theorem clockEdge_of_accepts (h : acceptsAt p s) :
    clockEdge p s = .next (s.await (portWord p) s.cfg.latency) := by
  obtain ⟨hvalid, hready⟩ := h
  obtain ⟨hf, hs, hrst⟩ := reqReady_iff.mp hready
  simp [clockEdge_of_working hrst hf, workingEdge, hs, hvalid]

/-- An edge that accepts nothing leaves a block with nothing in flight as it is. -/
theorem clockEdge_of_not_accepts (hrst : p.rst = 0) (hs : s.slot = .empty) (h : ¬ acceptsAt p s) :
    clockEdge p s = .next s := by
  by_cases hf : s.readFaulted = 1
  · exact clockEdge_of_faulted hrst hf
  · have hf : s.readFaulted = 0 := bit_ne_one.mp hf
    have hvalid : p.reqValid ≠ 1 := fun hv => h ⟨hv, reqReady_iff.mpr ⟨hf, hs, hrst⟩⟩
    simp only [clockEdge_of_working hrst hf, workingEdge, hs, if_neg hvalid]

/-- The response of a request in flight is not due before the last edge left to it (R65.3). -/
theorem clockEdge_of_early {q : ReqWord} {left : Nat} (hrst : p.rst = 0) (hf : s.readFaulted = 0)
    (hs : s.slot = .waiting q left) (hleft : 1 < left) : clockEdge p s = .next (s.await q (left - 1)) := by
  simp [clockEdge_of_working hrst hf, workingEdge, hs, hleft]

/-- At the last edge left to it, a request's work ends with its verdict (R65.3, R65.4). -/
theorem clockEdge_of_due {q : ReqWord} {v : Verdict} (hrst : p.rst = 0) (hf : s.readFaulted = 0)
    (hs : s.slot = .waiting q 1) (hv : instrVerdict s.cfg (decode s.cfg.variant q) = some v) :
    clockEdge p s = .next (s.finish v) := by
  simp [clockEdge_of_working hrst hf, workingEdge, hs, finishRequest, hv]

/-- A response presented and taken is delivered (R65.3). -/
theorem clockEdge_of_taken {r : Response} (hvalid : rspValid p.rst s = 1) (hs : s.slot = .presenting r)
    (hready : p.rspReady = 1) : clockEdge p s = .next (s.deliver r) := by
  obtain ⟨hrst, hf, -⟩ := rspValid_iff.mp hvalid
  simp [clockEdge_of_working hrst hf, workingEdge, hs, hready]

/-- A response presented and not taken is held (R65.3). -/
theorem clockEdge_of_untaken (hvalid : rspValid p.rst s = 1) (hready : p.rspReady = 0) :
    clockEdge p s = .next s := by
  obtain ⟨hrst, hf, r, hs⟩ := rspValid_iff.mp hvalid
  simp [clockEdge_of_working hrst hf, workingEdge, hs, hready]

end Edge

/-- A step whose event is an edge. -/
theorem step_of_edge {s : State} {p : PortIn} {es : List Event} (hw : s.cfg.wf = true) (h : s.env = .edge p :: es) :
    step s = clockEdge p s.takeEvent := by
  rw [step_of_wf hw, State.nextEvent_of_cons h, handleEvent_edge]

/-- No edge takes an event from the environment. -/
theorem EdgeTo.env_eq {p : PortIn} {s t : State} (h : EdgeTo p s t) : t.env = s.env := by
  cases h with
  | finish q left v => cases v <;> rfl
  | _ => rfl

/-- Settles O49: each clause is one case of the edge, on the state that has taken the event. -/
theorem handshakeAtAnEdge : Obligations.HandshakeAtAnEdge := by
  intro s p es hw henv hrst
  obtain ⟨t, ht⟩ := exists_clockEdge (s := s.takeEvent) hw p
  have hto : EdgeTo p s.takeEvent t := clockEdge_next ht
  have ht_of {u : State} (hu : clockEdge p s.takeEvent = .next u) : u = t :=
    Host.Outcome.next.inj (hu.symm.trans ht)
  refine ⟨t, (step_of_edge hw henv).trans ht, ?_, fun hacc => ?_, fun hs hacc => ?_, fun ⟨hready, hvalid⟩ => ?_,
    fun hvalid hready => ?_, fun hno => ?_⟩
  · rw [hto.env_eq, State.takeEvent_env, henv, List.tail_cons]
  · obtain rfl := ht_of (clockEdge_of_accepts hacc)
    exact ⟨rfl, rfl⟩
  · obtain rfl := ht_of (clockEdge_of_not_accepts hrst hs hacc)
    exact hs
  · obtain ⟨-, -, r, hs⟩ := rspValid_iff.mp hvalid
    obtain rfl := ht_of (clockEdge_of_taken hvalid hs hready)
    exact ⟨r, hs, portsCarry_of_rspValid hs hvalid, rfl, rfl⟩
  · obtain ⟨-, -, r, hs⟩ := rspValid_iff.mp hvalid
    obtain rfl := ht_of (clockEdge_of_untaken hvalid hready)
    exact ⟨r, hs, portsCarry_of_rspValid hs hvalid, hs, portsCarry_of_rspValid hs (hrst ▸ hvalid)⟩
  · exact hto.delivered_cases.resolve_right fun hdel => hno hdel.1

/-! ### A queue of requests -/

/-- A request event in a block that is ready concludes the oldest request waiting with its verdict (R92). -/
theorem step_of_request {s : State} {q : ReqWord} {rest : List ReqWord} {v : Verdict} (hw : s.cfg.wf = true)
    (hev : s.nextEvent = .request) (hr : s.ready = true) (hq : s.requests = q :: rest)
    (hv : instrVerdict s.cfg (decode s.cfg.variant q) = some v) :
    step s = .next (State.conclude { s.takeEvent with requests := rest } v) := by
  rw [step_of_wf hw, hev, handleEvent_request]
  exact offerRequest_of_verdict (s := s.takeEvent) hw hr hq hv

/-- The FALLIBLE row answers every request with a record (R90, R123). -/
theorem exists_fallible_response {c : Config} (hw : c.wf = true) (f : Freq) (k : Key) :
    ∃ r, instrVerdict c (.periodForKeyFallible f k) = some (.response r) := by
  obtain ⟨conv, hconv⟩ := exists_convert hw f.toNat k.toNat
  obtain ⟨r, hr⟩ := fallibleVerdict_response conv
  exact ⟨r, by rw [instrVerdict, hconv, Option.map_some, hr]⟩

/-- One request of a queue in a FALLIBLE block (R65.5). -/
theorem step_of_fallible_queue {s : State} {q : ReqWord} {rest : List ReqWord} {r : Response}
    (hw : s.cfg.wf = true) (hvar : s.cfg.variant = .fallible) (hs : s.slot = .empty) (henv : s.env = [])
    (hq : s.requests = q :: rest)
    (hr : instrVerdict s.cfg (.periodForKeyFallible (freqField q) (keyField q)) = some (.response r)) :
    step s = .next { s with
      requests := rest, delivered := s.delivered ++ [r], freeCount := s.freeCount + 1 } := by
  have hready : s.ready = true := (State.ready_iff s).mpr ⟨State.readFaulted_of_fallible hvar, hs⟩
  have hverdict : instrVerdict s.cfg (decode s.cfg.variant q) = some (.response r) := by rw [hvar]; exact hr
  rw [step_of_request hw (State.nextEvent_of_nil henv) hready hq hverdict]
  simp [State.conclude, State.deliver, State.takeEvent, State.tick, hs, henv]

/-- Settles O44, by induction on the queue: each step answers the request at its head. -/
theorem fallibleQueueIsAnsweredInOrder : Obligations.FallibleQueueIsAnsweredInOrder := by
  intro qs rest
  induction qs with
  | nil =>
    intro s _ _ _ _ hq
    obtain rfl : s.requests = rest := hq
    exact ⟨[], .nil, by simp⟩
  | cons q qs ih =>
    intro s hw hvar hs henv hq
    have hq : s.requests = q :: (qs ++ rest) := hq
    obtain ⟨r, hr⟩ := exists_fallible_response hw (freqField q) (keyField q)
    obtain ⟨rs, hrs, hrun⟩ := ih { s with
      requests := qs ++ rest, delivered := s.delivered ++ [r], freeCount := s.freeCount + 1 } hw hvar hs henv rfl
    refine ⟨r :: rs, .cons hr hrs, ?_⟩
    rw [List.length_cons, runSteps_succ _ (step_of_fallible_queue hw hvar hs henv hq hr), hrun]
    simp [Nat.add_assoc, Nat.add_comm 1]

/-! ### The clocked block and the transaction -/

@[simp] theorem State.finish_env (s : State) (v : Verdict) : (s.finish v).env = s.env := by cases v <;> rfl

@[simp] theorem State.takeEvent_finish (s : State) (v : Verdict) :
    (s.finish v).takeEvent = s.takeEvent.finish v := by cases v <;> rfl

/-- The end of a request's work empties or overwrites the slot, whatever it held. -/
@[simp] theorem State.finish_await (s : State) (q : ReqWord) (left : Nat) (v : Verdict) :
    (s.await q left).finish v = s.finish v := by cases v <;> rfl

theorem State.conclude_setFreeCount (s : State) (v : Verdict) (n : Nat) :
    { s.conclude v with freeCount := n } = State.conclude { s with freeCount := n } v := by cases v <;> rfl

/-- A request put in flight, with all the edges left to it outside reset, ends its work with its verdict at the last of
them (R65.3, R65.4). -/
theorem runSteps_await {q : ReqWord} {v : Verdict} {es : List Event} (p : PortIn) (ps : List PortIn) {s : State}
    (hw : s.cfg.wf = true) (hf : s.readFaulted = 0) (henv : s.env = (p :: ps).map Event.edge ++ es)
    (hrst : ∀ x ∈ p :: ps, x.rst = 0) (hv : instrVerdict s.cfg (decode s.cfg.variant q) = some v) :
    runSteps (ps.length + 1) (s.await q (ps.length + 1)) =
      .next (State.finish { s with env := es, freeCount := s.freeCount + (ps.length + 1) } v) := by
  have hp : p.rst = 0 := hrst p List.mem_cons_self
  induction ps generalizing p s with
  | nil =>
    have hstep : step (s.await q 1) = .next (s.takeEvent.finish v) := by
      rw [step_of_edge (s := s.await q 1) hw henv, ← State.finish_await s.takeEvent q 1]
      exact clockEdge_of_due (s := s.takeEvent.await q 1) hp hf rfl hv
    have htail : es = s.env.tail := by rw [henv]; rfl
    rw [List.length_nil, runSteps_succ 0 hstep, runSteps_zero, htail]
    rfl
  | cons p' ps ih =>
    have hstep : step (s.await q (ps.length + 2)) = .next (s.takeEvent.await q (ps.length + 1)) := by
      rw [step_of_edge (s := s.await q (ps.length + 2)) hw henv]
      exact clockEdge_of_early (s := s.takeEvent.await q (ps.length + 2)) hp hf rfl (by omega)
    have htail : s.takeEvent.env = (p' :: ps).map Event.edge ++ es := by rw [State.takeEvent_env, henv]; rfl
    have hrst' : ∀ x ∈ p' :: ps, x.rst = 0 := fun x hx => hrst x (List.mem_cons_of_mem p hx)
    have hcount : s.freeCount + (ps.length + 2) = s.takeEvent.freeCount + (ps.length + 1) := by
      rw [State.takeEvent_freeCount]
      omega
    rw [List.length_cons, runSteps_succ _ hstep, hcount]
    exact ih p' (s := s.takeEvent) hw hf htail hrst' hv (hrst' p' List.mem_cons_self)

/-- One edge after a request's work has ended, its transaction has: the response is taken, or the fault, which only an
ASSERTIVE block raises, stands (R65.3, R125). -/
theorem clockEdge_finish {s : State} {p : PortIn} {q : ReqWord} {v : Verdict} (hf : s.readFaulted = 0)
    (hrst : p.rst = 0) (hready : p.rspReady = 1)
    (hv : instrVerdict s.cfg (decode s.cfg.variant q) = some v) :
    clockEdge p (s.finish v) = .next (s.conclude v) := by
  cases v with
  | response r =>
    have hvalid : rspValid p.rst (s.present r) = 1 := rspValid_iff.mpr ⟨hrst, hf, r, rfl⟩
    exact clockEdge_of_taken hvalid rfl hready
  | fault c =>
    have hfaulted : (s.raiseFault c).readFaulted = 1 := by
      rw [State.raiseFault_readFaulted, (assertive_of_fault hv).1, latchRead_assertive]
    exact clockEdge_of_faulted hrst hfaulted

theorem step_of_finish {s : State} {p : PortIn} {es : List Event} {q : ReqWord} {v : Verdict} (hw : s.cfg.wf = true)
    (hf : s.readFaulted = 0) (henv : s.env = .edge p :: es) (hrst : p.rst = 0) (hready : p.rspReady = 1)
    (hv : instrVerdict s.cfg (decode s.cfg.variant q) = some v) :
    step (s.finish v) = .next (s.takeEvent.conclude v) := by
  rw [step_of_edge (by rwa [State.finish_cfg]) ((State.finish_env s v).trans henv), State.takeEvent_finish]
  exact clockEdge_finish (s := s.takeEvent) hf hrst hready hv

/-- Accepting a request at one edge, waiting `LATENCY` edges and taking the response concludes the request (R65). -/
theorem runSteps_transaction {s : State} {first last : PortIn} {ps : List PortIn} {es : List Event} {v : Verdict}
    (hw : s.cfg.wf = true) (hacc : acceptsAt first s) (hlen : ps.length = s.cfg.latency)
    (hps : ∀ p ∈ ps, p.rst = 0) (hlast : last.rst = 0) (hready : last.rspReady = 1)
    (henv : s.env = .edge first :: (ps.map Event.edge ++ .edge last :: es))
    (hv : instrVerdict s.cfg (decode s.cfg.variant (portWord first)) = some v) :
    runSteps (s.cfg.latency + 2) s =
      .next (State.conclude { s with env := es, freeCount := s.freeCount + s.cfg.latency + 2 } v) := by
  obtain ⟨hf, -, -⟩ := reqReady_iff.mp hacc.2
  have hlat : 1 ≤ ps.length := hlen ▸ ((Config.wf_iff_facts _).mp hw).latency_pos
  obtain ⟨p, ps, rfl⟩ := List.exists_cons_of_length_pos hlat
  have htail : s.takeEvent.env = (p :: ps).map Event.edge ++ .edge last :: es := by
    rw [State.takeEvent_env, henv, List.tail_cons]
  have haccept : step s = .next (s.takeEvent.await (portWord first) (ps.length + 1)) := by
    rw [step_of_edge hw henv, show ps.length + 1 = s.cfg.latency from hlen]
    exact clockEdge_of_accepts (s := s.takeEvent) hacc
  have hfinish := runSteps_await p ps (s := s.takeEvent) hw hf htail hps hv
  have hcount : s.freeCount + s.cfg.latency + 2 = s.takeEvent.freeCount + (ps.length + 1) + 1 := by
    rw [State.takeEvent_freeCount, ← hlen, List.length_cons]
    omega
  rw [hcount, ← hlen, List.length_cons, runSteps_succ _ haccept, runSteps_add _ 1 hfinish]
  exact runSteps_succ 0 (step_of_finish hw hf rfl hlast hready hv)

/-- Settles O51: both ways the block concludes with the verdict of the same word. -/
theorem portsRefineTheTransaction : Obligations.PortsRefineTheTransaction := by
  intro s first last ps es hw hf hs hfirst hvalid hlen hps hlast hready
  obtain ⟨v, hv⟩ := exists_instrVerdict hw (decode s.cfg.variant (portWord first))
  have hacc : acceptsAt first s := ⟨hvalid, reqReady_iff.mpr ⟨hf, hs, hfirst⟩⟩
  have hstep := step_of_request (s := { s with env := .request :: es, requests := portWord first :: s.requests })
    hw rfl ((State.ready_iff s).mpr ⟨hf, hs⟩) rfl hv
  refine ⟨_, hstep, ?_⟩
  rw [runSteps_transaction (s := { s with env := .edge first :: (ps.map Event.edge ++ .edge last :: es) })
    hw hacc hlen hps hlast hready rfl hv, State.conclude_setFreeCount]
  rfl

end Sys2Proof.Machine
end

section
/-! PROOF. The statements about the pipeline `Convert` of spec/40_period_for_key.md: the bounds of its values (R80, R88,
R96), its rounding and the two other forms of it (R93 to R95), how the period moves with the key and the frequency
(R98, R99), and the largest periods of the reference configuration (R100). -/

namespace Sys2Proof.Machine

/-! ### The rounded quotient (R86) -/

/-- The rounded quotient compared with a whole number: `A/D` is below the half after it. -/
theorem roundedQuotient_le_iff {a d n : Nat} (hd : 1 ≤ d) : roundedQuotient a d ≤ n ↔ 2 * a < (2 * n + 1) * d := by
  have hsplit : (2 * n + 1) * d + d = (n + 1) * (2 * d) := by ring
  rw [roundedQuotient, ← Nat.lt_succ_iff, Nat.div_lt_iff_lt_mul (by omega), Nat.succ_eq_add_one, ← hsplit]
  omega

/-- The rounded quotient grows with the numerator and falls with the denominator. -/
theorem roundedQuotient_mono {a a' d d' : Nat} (ha : a ≤ a') (hd' : 1 ≤ d') (hd : d' ≤ d) :
    roundedQuotient a d ≤ roundedQuotient a' d' := by
  have hself : 2 * a' < (2 * roundedQuotient a' d' + 1) * d' := (roundedQuotient_le_iff hd').mp le_rfl
  refine (roundedQuotient_le_iff (hd'.trans hd)).mpr ?_
  calc 2 * a ≤ 2 * a' := Nat.mul_le_mul_left 2 ha
    _ < (2 * roundedQuotient a' d' + 1) * d' := hself
    _ ≤ (2 * roundedQuotient a' d' + 1) * d := Nat.mul_le_mul_left _ hd

/-- A common factor of numerator and denominator cancels. -/
theorem roundedQuotient_mul_right (a d : Nat) {m : Nat} (hm : 0 < m) :
    roundedQuotient (a * m) (d * m) = roundedQuotient a d := by
  have hnum : 2 * (a * m) + d * m = (2 * a + d) * m := by ring
  rw [roundedQuotient, hnum, ← Nat.mul_assoc, Nat.mul_div_mul_right _ _ hm, roundedQuotient]

/-- A whole multiple of the denominator passes through the rounding. -/
theorem roundedQuotient_mul_add {d : Nat} (hd : 1 ≤ d) (n r : Nat) :
    roundedQuotient (d * n + r) d = n + roundedQuotient r d := by
  have hnum : 2 * (d * n + r) + d = 2 * r + d + 2 * d * n := by ring
  rw [roundedQuotient, hnum, Nat.add_mul_div_left _ _ (by omega), Nat.add_comm, roundedQuotient]

/-- A remainder rounds to 1 from one half of the denominator on, else to 0. -/
theorem roundedQuotient_of_lt {r d : Nat} (hr : r < d) :
    roundedQuotient r d = if d ≤ 2 * r then 1 else 0 := by
  have hle_one : roundedQuotient r d ≤ 1 := (roundedQuotient_le_iff (by omega)).mpr (by omega)
  have hle_zero : roundedQuotient r d ≤ 0 ↔ 2 * r < (2 * 0 + 1) * d := roundedQuotient_le_iff (by omega)
  split <;> omega

@[simp] theorem roundedQuotient_zero_left (d : Nat) : roundedQuotient 0 d = 0 := by
  rw [roundedQuotient]
  exact Nat.div_eq_zero_iff.mpr (by omega)

/-- Adding one half and taking the floor is the division of R86. -/
theorem roundedQuotient_eq_floor {a d : Nat} (hd : 1 ≤ d) :
    (roundedQuotient a d : Int) = ⌊(a : Rat) / (d : Rat) + 1 / 2⌋ := by
  have hd0 : (d : Rat) ≠ 0 := Nat.cast_ne_zero.mpr (Nat.one_le_iff_ne_zero.mp hd)
  have hsum : (a : Rat) / (d : Rat) + 1 / 2 = ((2 * a + d : Nat) : Rat) / ((2 * d : Nat) : Rat) := by
    push_cast
    field_simp
  rw [hsum, Rat.floor_natCast_div_natCast, roundedQuotient]
  norm_cast

/-- Settles O18: the floor of the sum over a common denominator; a tie leaves a remainder of exactly one half; and two
requests of the reference configuration on either side of it. -/
theorem roundingIsHalfUp : Obligations.RoundingIsHalfUp := by
  refine ⟨fun a d hd => roundedQuotient_eq_floor hd, fun a d n hd htie => ?_, fun v => ?_⟩
  · obtain ⟨r, rfl⟩ : ∃ r, a = d * n + r := ⟨a - d * n, by omega⟩
    rw [roundedQuotient_mul_add hd, roundedQuotient_of_lt (by omega), if_pos (by omega)]
  · cases v with
    | fallible => decide
    | assertive => decide

/-- Settles O19: the whole part of `A/D` passes through the rounding, and the remainder rounds on its own. -/
theorem remainderFormAgrees : Obligations.RemainderFormAgrees := by
  intro a d hd
  have hr : a % d < d := Nat.mod_lt a hd
  refine ⟨?_, by omega⟩
  calc roundedByRemainder a d = a / d + roundedQuotient (a % d) d := by
        rw [roundedByRemainder, roundedQuotient_of_lt hr]
    _ = roundedQuotient a d := by rw [← roundedQuotient_mul_add hd, Nat.div_add_mod]

/-! ### The table's entry for a key -/

/-- The entry of the key's semitone (R41). -/
def entryFor (c : Config) (k : Nat) : Nat := c.expFrac.getD (k % 12) 0

/-- In a well-formed table a read at the key's index answers this entry. -/
theorem tableRead_eq_entryFor {c : Config} (hw : c.wf = true) (k : Nat) :
    tableRead c (tableIndex k) = some (entryFor c k) := by
  obtain ⟨e, he⟩ := exists_tableRead hw k
  rw [tableRead_tableIndex] at he ⊢
  rw [entryFor, List.getD_eq_getElem?_getD, he, Option.getD_some]

theorem eq_entryFor_of_tableRead {c : Config} (hw : c.wf = true) {k e : Nat}
    (he : tableRead c (tableIndex k) = some e) : e = entryFor c k :=
  Option.some.inj (he.symm.trans (tableRead_eq_entryFor hw k))

/-- No entry is above `2 * SCALE` (R13(e)). -/
theorem entryFor_le {c : Config} (hw : c.wf = true) (k : Nat) : entryFor c k ≤ 2 * c.scale := by
  have hread := tableRead_eq_entryFor hw k
  rw [tableRead_tableIndex] at hread
  exact ((Config.wf_iff_facts c).mp hw).bounded _ (List.mem_of_getElem? hread)

/-- The entries rise along the whole table (R13(d) says it of neighbours). -/
theorem expFrac_getD_mono {c : Config} (hw : c.wf = true) {i j : Nat} (hij : i ≤ j) (hj : j < 12) :
    c.expFrac.getD i 0 ≤ c.expFrac.getD j 0 := by
  induction j, hij using Nat.le_induction with
  | base => exact le_rfl
  | succ j _ ih => exact (ih (by omega)).trans (((Config.wf_iff_facts c).mp hw).rises j (by omega))

/-- No entry is below `SCALE`, the first one (R13(c)). -/
theorem scale_le_entryFor {c : Config} (hw : c.wf = true) (k : Nat) : c.scale ≤ entryFor c k := by
  have hfirst : c.expFrac.getD 0 0 = c.scale := by
    rw [List.getD_eq_getElem?_getD, ((Config.wf_iff_facts c).mp hw).first_eq, Option.getD_some]
  exact hfirst ▸ expFrac_getD_mono hw (Nat.zero_le _) (Nat.mod_lt k (by decide))

/-! ### The denominator -/

theorem octaveFactor_pos (o : Nat) : 0 < octaveFactor o := Nat.two_pow_pos o

theorem octave_le_ten {k : Nat} (hk : k ≤ 127) : octave k ≤ 10 := by
  rw [octave, semitones]
  omega

/-- The denominator is a product of three positive factors (R88). -/
theorem denominator_pos {c : Config} (hw : c.wf = true) (k : Nat) :
    1 ≤ denominator c (entryFor c k) (octave k) := by
  have hfacts := (Config.wf_iff_facts c).mp hw
  exact Nat.mul_pos (Nat.mul_pos hfacts.baseFx_pos (hfacts.scale_pos.trans (scale_le_entryFor hw k)))
    (octaveFactor_pos _)

/-- Settles O17: the least entry is `SCALE`. -/
theorem denominatorIsPositive : Obligations.DenominatorIsPositive := by
  intro c hw k e he
  obtain rfl := eq_entryFor_of_tableRead hw he
  exact ⟨scale_le_entryFor hw k, denominator_pos hw k⟩

/-- `EXP_FRAC[s] * 2^o` never falls as the key rises: within an octave the table rises, and from one octave to a later
one the factor 2 covers the whole span from `SCALE` to `2 * SCALE`. -/
theorem entryFor_mul_octaveFactor_mono {c : Config} (hw : c.wf = true) {j k : Nat} (hjk : j ≤ k) :
    entryFor c j * octaveFactor (octave j) ≤ entryFor c k * octaveFactor (octave k) := by
  have hoct : octave j ≤ octave k := Nat.div_le_div_right hjk
  rcases hoct.eq_or_lt with hsame | hless
  · have hsemitone : j % 12 ≤ k % 12 := by
      simp only [octave, semitones] at hsame
      omega
    rw [hsame]
    exact Nat.mul_le_mul_right _ (expFrac_getD_mono hw hsemitone (Nat.mod_lt k (by decide)))
  · calc entryFor c j * 2 ^ octave j ≤ 2 * c.scale * 2 ^ octave j := Nat.mul_le_mul_right _ (entryFor_le hw j)
      _ = c.scale * 2 ^ (octave j + 1) := by ring
      _ ≤ entryFor c k * 2 ^ octave k :=
        Nat.mul_le_mul (scale_le_entryFor hw k) (Nat.pow_le_pow_right (by decide) hless)

theorem denominator_mono {c : Config} (hw : c.wf = true) {j k : Nat} (hjk : j ≤ k) :
    denominator c (entryFor c j) (octave j) ≤ denominator c (entryFor c k) (octave k) := by
  simp only [denominator, Nat.mul_assoc]
  exact Nat.mul_le_mul_left _ (entryFor_mul_octaveFactor_mono hw hjk)

/-- The numerator grows with the frequency. -/
theorem scaledNumerator_mono (c : Config) {f g : Nat} (hfg : f ≤ g) : scaledNumerator c f ≤ scaledNumerator c g :=
  Nat.mul_le_mul_right _ (Nat.mul_le_mul_right _ hfg)

/-- Settles O20: `2^BASE_SHIFT` is `2^(BASE_SHIFT - o)` times the octave factor, which cancels from the ratio. -/
theorem octaveOffsetFormAgrees : Obligations.OctaveOffsetFormAgrees := by
  refine ⟨fun c _ f k e _ ho => ?_, fun c hshift k hk => (octave_le_ten hk).trans hshift, fun v => ?_⟩
  · have hnum : scaledNumerator c f = product c f * 2 ^ (c.baseShift - octave k) * octaveFactor (octave k) := by
      rw [scaledNumerator, octaveFactor, Nat.mul_assoc, ← Nat.pow_add, Nat.sub_add_cancel ho]
    refine ⟨by rw [hnum, denominator]; ring, ?_⟩
    rw [octaveOffsetPeriod, periodFromEntry, hnum, denominator, roundedQuotient_mul_right _ _ (octaveFactor_pos _)]
  · cases v with
    | fallible => decide
    | assertive => decide

/-! ### Bounds on the values (R96) -/

/-- A frequency that passes the guard of R83. -/
theorem productOverflows_eq_false_iff {c : Config} {f : Nat} :
    productOverflows c f = false ↔ f * c.scale ≤ 2 ^ c.workW - 1 := by
  rw [productOverflows_eq, decide_eq_false_iff_not, Nat.not_lt]

theorem scaledNumerator_le {c : Config} {f : Nat} (h : productOverflows c f = false) :
    scaledNumerator c f ≤ (2 ^ c.workW - 1) * 2 ^ c.baseShift :=
  Nat.mul_le_mul_right _ (productOverflows_eq_false_iff.mp h)

/-- A bound on the entry bounds the denominator of every valid key. -/
theorem denominator_le {c : Config} {e b k : Nat} (he : e ≤ b) (hk : k ≤ 127) :
    denominator c e (octave k) ≤ c.baseFx * b * 2 ^ 10 :=
  Nat.mul_le_mul (Nat.mul_le_mul_left _ he) (Nat.pow_le_pow_right (by decide) (octave_le_ten hk))

theorem referenceTable_le : ∀ e ∈ referenceTable, e ≤ 1933 := by decide

/-- Settles O21: the guard bounds the product, R13(e) and the last octave bound the denominator, and so do the last
entry and the last octave of the reference configuration. -/
theorem datapathRanges : Obligations.DatapathRanges := by
  refine ⟨fun c hw f k e hk hf he => ?_, fun v f k e hk hf he => ?_, by decide⟩
  · obtain rfl := eq_entryFor_of_tableRead hw he
    exact ⟨productOverflows_eq_false_iff.mp hf, scaledNumerator_le hf, denominator_le (entryFor_le hw k) hk⟩
  · have hentry : e ≤ 1933 := referenceTable_le e (List.mem_of_getElem? he)
    refine ⟨(scaledNumerator_le hf).trans_lt (by decide : (2 ^ 32 - 1) * 2 ^ 12 < 2 ^ 44), ?_⟩
    calc denominator (Config.reference v) e (octave k)
        ≤ (Config.reference v).baseFx * 1933 * 2 ^ 10 := denominator_le hentry hk
      _ = 33488 * 1933 * 2 ^ 10 := rfl
      _ = 66285879296 := by norm_num

/-! ### The period and the outcome, written out -/

/-- The value of step 6 for a key of a well-formed block. -/
def periodFor (c : Config) (f k : Nat) : Nat := periodFromEntry c (entryFor c k) f k

theorem unguardedPeriod_eq {c : Config} (hw : c.wf = true) (f k : Nat) :
    unguardedPeriod c f k = some (periodFor c f k) := by
  rw [unguardedPeriod, tableRead_eq_entryFor hw, Option.map_some, periodFor]

/-- Narrowing, with its check written out (R87). -/
theorem narrow_eq (c : Config) (p : Nat) :
    narrow c p = if 2 ^ c.outW - 1 < p then .err .outputOverflow else .ok p := by
  simp only [narrow, outputOverflows, decide_eq_true_eq]

/-- `Convert` with its three checks written out, in the order of R122. -/
theorem convert_eq {c : Config} (hw : c.wf = true) (f k : Nat) :
    convert c f k = some
      (if 127 < k then .err .keyRange
        else if 2 ^ c.workW - 1 < f * c.scale then .err .productOverflow
        else if 2 ^ c.outW - 1 < periodFor c f k then .err .outputOverflow
        else .ok (periodFor c f k)) := by
  rw [convert, keyOutOfRange_eq, productOverflows_eq, tableRead_eq_entryFor hw]
  by_cases hkey : 127 < k
  · simp [hkey]
  · by_cases hproduct : 2 ^ c.workW - 1 < f * c.scale
    · simp [hkey, hproduct]
    · rw [if_neg hkey, if_neg hproduct, decide_eq_false hkey, decide_eq_false hproduct]
      exact congrArg some (narrow_eq c (periodFor c f k))

theorem convert_eq_ok_iff {c : Config} (hw : c.wf = true) {f k p : Nat} :
    convert c f k = some (.ok p) ↔
      k ≤ 127 ∧ f * c.scale ≤ 2 ^ c.workW - 1 ∧ periodFor c f k ≤ 2 ^ c.outW - 1 ∧ periodFor c f k = p := by
  rw [convert_eq hw]
  split_ifs with hkey hproduct hperiod
  · simp [Nat.not_le.mpr hkey]
  · simp [Nat.not_le.mpr hproduct]
  · simp [Nat.not_le.mpr hperiod]
  · simp [Nat.not_lt.mp hkey, Nat.not_lt.mp hproduct, Nat.not_lt.mp hperiod]

theorem convert_eq_outputOverflow_iff {c : Config} (hw : c.wf = true) {f k : Nat} :
    convert c f k = some (.err .outputOverflow) ↔
      k ≤ 127 ∧ f * c.scale ≤ 2 ^ c.workW - 1 ∧ 2 ^ c.outW - 1 < periodFor c f k := by
  rw [convert_eq hw]
  split_ifs with hkey hproduct hperiod
  · simp [Nat.not_le.mpr hkey]
  · simp [Nat.not_le.mpr hproduct]
  · simp [Nat.not_lt.mp hkey, Nat.not_lt.mp hproduct, hperiod]
  · simp [hperiod]

/-- Settles O15: every operand pair has an outcome, and narrowing bounds a period. -/
theorem convertIsTotal : Obligations.ConvertIsTotal := by
  intro c hw f k
  obtain ⟨r, hr⟩ := exists_convert hw f k
  exact ⟨r, hr, fun p hp => lt_of_convert_ok (hp ▸ hr)⟩

/-- A lower key and a higher frequency never give a smaller period (R99). -/
theorem periodFor_mono {c : Config} (hw : c.wf = true) {f g j k : Nat} (hfg : f ≤ g) (hjk : j ≤ k) :
    periodFor c f k ≤ periodFor c g j :=
  roundedQuotient_mono (scaledNumerator_mono c hfg) (denominator_pos hw j) (denominator_mono hw hjk)

/-- OUTPUT_OVERFLOW spreads to every smaller key (R99). -/
theorem convert_outputOverflow_of_le {c : Config} (hw : c.wf = true) {f j k : Nat} (hjk : j ≤ k)
    (h : convert c f k = some (.err .outputOverflow)) : convert c f j = some (.err .outputOverflow) := by
  rw [convert_eq_outputOverflow_iff hw] at h ⊢
  obtain ⟨hk, hf, hover⟩ := h
  exact ⟨hjk.trans hk, hf, hover.trans_le (periodFor_mono hw le_rfl hjk)⟩

/-- Settles O22: all four parts are the monotonicity of the denominator and of the rounded quotient. -/
theorem periodNeverRisesWithKey : Obligations.PeriodNeverRisesWithKey := by
  intro c hw
  refine ⟨fun f k j hjk _ => ?_, fun f g k hfg _ => ?_, fun k j e e' hjk he he' => ?_, fun f k j hjk h => ?_⟩
  · exact ⟨_, _, unguardedPeriod_eq hw f k, unguardedPeriod_eq hw f j, periodFor_mono hw le_rfl hjk⟩
  · exact ⟨_, _, unguardedPeriod_eq hw f k, unguardedPeriod_eq hw g k, periodFor_mono hw hfg le_rfl⟩
  · obtain rfl := eq_entryFor_of_tableRead hw he
    obtain rfl := eq_entryFor_of_tableRead hw he'
    exact denominator_mono hw hjk
  · exact convert_outputOverflow_of_le hw hjk h

/-! ### Frequency 0 (R98) -/

theorem product_zero (c : Config) : product c 0 = 0 := Nat.zero_mul _

theorem scaledNumerator_zero (c : Config) : scaledNumerator c 0 = 0 := by
  rw [scaledNumerator, product_zero, Nat.zero_mul]

theorem periodFor_zero (c : Config) (k : Nat) : periodFor c 0 k = 0 := by
  rw [periodFor, periodFromEntry, scaledNumerator_zero, roundedQuotient_zero_left]

/-- Settles O23: a numerator of 0 passes both width checks; the two small frequencies are evaluated. -/
theorem zeroFrequencyGivesZeroPeriod : Obligations.ZeroFrequencyGivesZeroPeriod := by
  refine ⟨fun c hw => ⟨product_zero c, scaledNumerator_zero c, fun k hk => ⟨?_, ?_⟩⟩, fun v => ?_⟩
  · rw [unguardedPeriod_eq hw, periodFor_zero]
  · refine (convert_eq_ok_iff hw).mpr ⟨hk, ?_, ?_, periodFor_zero c k⟩
    · rw [Nat.zero_mul]; exact Nat.zero_le _
    · rw [periodFor_zero]; exact Nat.zero_le _
  · cases v with
    | fallible => decide
    | assertive => decide

/-! ### The reference configuration (R100) -/

theorem reference_wf (v : Variant) : (Config.reference v).wf = true := (reference_literal_wf v).1

/-- The product fits exactly up to `F_MAX` (R11). -/
theorem product_le_iff_le_fMax {c : Config} (hscale : 1 ≤ c.scale) (f : Nat) :
    f * c.scale ≤ 2 ^ c.workW - 1 ↔ f ≤ c.fMax := by
  rw [Config.fMax, Nat.le_div_iff_mul_le hscale]

theorem reference_product_le_iff (v : Variant) (f : Nat) :
    f * (Config.reference v).scale ≤ 2 ^ (Config.reference v).workW - 1 ↔ f ≤ 4194303 := by
  rw [product_le_iff_le_fMax ((Config.wf_iff_facts _).mp (reference_wf v)).scale_pos, reference_fMax]

theorem reference_periodFor_fMax (v : Variant) : periodFor (Config.reference v) 4194303 0 = 513016 := by
  cases v with
  | fallible => decide
  | assertive => decide

/-- The lowest key at the highest frequency has the largest period. -/
theorem reference_periodFor_le (v : Variant) {f : Nat} (hf : f ≤ 4194303) (k : Nat) :
    periodFor (Config.reference v) f k ≤ 513016 :=
  reference_periodFor_fMax v ▸ periodFor_mono (reference_wf v) hf (Nat.zero_le k)

/-- Settles O24: every period that passes the guard of R83 is at most that of `F_MAX` and key 0, which fits 32 bits. -/
theorem referenceLargestPeriod : Obligations.ReferenceLargestPeriod := by
  have hw := reference_wf .assertive
  refine ⟨fun f k h => ?_, fun f k p h => ?_, ?_⟩
  · obtain ⟨-, hf, hover⟩ := (convert_eq_outputOverflow_iff hw).mp h
    have hle := reference_periodFor_le .assertive ((reference_product_le_iff _ f).mp hf) k
    exact absurd (hover.trans_le hle) (by decide)
  · obtain ⟨-, hf, -, rfl⟩ := (convert_eq_ok_iff hw).mp h
    exact reference_periodFor_le .assertive ((reference_product_le_iff _ f).mp hf) k
  · exact (convert_eq_ok_iff hw).mpr
      ⟨by decide, by decide, by rw [reference_periodFor_fMax]; decide, reference_periodFor_fMax .assertive⟩

/-- The largest frequency whose period for the key is at most `n`, whatever the guards say. -/
def largestFreq (c : Config) (k n : Nat) : Nat :=
  ((2 * n + 1) * denominator c (entryFor c k) (octave k) - 1) / (2 * (c.scale * 2 ^ c.baseShift))

theorem periodFor_le_iff {c : Config} (hw : c.wf = true) {f k n : Nat} :
    periodFor c f k ≤ n ↔ f ≤ largestFreq c k n := by
  have hscale : 0 < c.scale := ((Config.wf_iff_facts c).mp hw).scale_pos
  have hbound : 0 < (2 * n + 1) * denominator c (entryFor c k) (octave k) :=
    Nat.mul_pos (Nat.succ_pos _) (denominator_pos hw k)
  have hnum : 2 * scaledNumerator c f = f * (2 * (c.scale * 2 ^ c.baseShift)) := by
    rw [scaledNumerator, product]; ring
  rw [periodFor, periodFromEntry, roundedQuotient_le_iff (denominator_pos hw k), hnum, largestFreq,
    Nat.le_div_iff_mul_le (Nat.mul_pos (by decide) (Nat.mul_pos hscale (Nat.two_pow_pos _))),
    Nat.le_sub_one_iff_lt hbound]

theorem exists_convert_ok_iff {c : Config} (hw : c.wf = true) {f k : Nat} (hk : k ≤ 127) :
    (∃ p, convert c f k = some (.ok p)) ↔ f ≤ min c.fMax (largestFreq c k (2 ^ c.outW - 1)) := by
  rw [Nat.le_min, ← product_le_iff_le_fMax ((Config.wf_iff_facts c).mp hw).scale_pos, ← periodFor_le_iff hw]
  simp [convert_eq_ok_iff hw, hk]

/-- Settles O25: the limit of each key is the smaller of `F_MAX` and the largest frequency whose period fits 16 bits,
evaluated for the 128 keys. -/
theorem fallibleFitLimits : Obligations.FallibleFitLimits := by
  intro f k hk
  rw [exists_convert_ok_iff (reference_wf .fallible) hk]
  refine iff_of_eq (congrArg (f ≤ ·) ?_)
  revert k
  decide

end Sys2Proof.Machine
end

section
/-! PROOF. The statements about the two instructions of spec/40_period_for_key.md (R90 to R92): what PERIOD_FOR_KEY does
in a block of each contract, with its whole frame, and that a step runs the decoded request. -/

namespace Sys2Proof.Machine

/-! ### A step -/

/-- Settles O54: every event has an outcome, because every request has a verdict. -/
theorem wellFormedBlockAlwaysSteps : Obligations.WellFormedBlockAlwaysSteps :=
  fun _ hw => exists_step hw

/-- Settles O35: a request event offers the oldest request, and a block that is ready runs it. -/
theorem stepRunsTheDecodedRequest : Obligations.StepRunsTheDecodedRequest := by
  intro s q rest hw hev hq hf hs
  have hready : s.takeEvent.ready = true := (State.ready_iff s).mpr ⟨hf, hs⟩
  rw [step_of_wf hw, hev, handleEvent_request, offerRequest_of_ready (s := s.takeEvent) hq hready]
  rfl

/-! ### The end of a transaction in a block with nothing in flight -/

theorem State.deliver_of_empty {s : State} (hs : s.slot = .empty) (r : Response) :
    s.deliver r = { s with delivered := s.delivered ++ [r] } := by
  rw [State.deliver, ← hs]

theorem State.raiseFault_of_assertive {s : State} (hv : s.cfg.variant = .assertive) (hs : s.slot = .empty)
    (c : Cause) : s.raiseFault c = { s with faulted := 1, faultCause := causeCode c } := by
  rw [State.raiseFault, State.writeFault, hv, latchWrite_assertive, latchWrite_assertive, ← hs]

/-! ### The two meanings, from the outcome of `Convert` -/

section Exec

variable {s : State} {f : Freq} {k : Key} {r : Conversion}

theorem exec_fallible (hw : s.cfg.wf = true) (hv : s.cfg.variant = .fallible) (hs : s.slot = .empty)
    (hr : convert s.cfg f.toNat k.toNat = some r) :
    exec (.periodForKeyFallible f k) s = .next (s.conclude (fallibleVerdict r)) :=
  exec_of_ready (i := .periodForKeyFallible f k) hw hv ((State.ready_iff s).mpr ⟨State.readFaulted_of_fallible hv, hs⟩)
    (congrArg (Option.map fallibleVerdict) hr)

theorem exec_assertive (hw : s.cfg.wf = true) (hv : s.cfg.variant = .assertive) (hf : s.faulted = 0)
    (hs : s.slot = .empty) (hr : convert s.cfg f.toNat k.toNat = some r) :
    exec (.periodForKeyAssertive f k) s = .next (s.conclude (assertiveVerdict r)) := by
  have hread : s.readFaulted = 0 := by rw [State.readFaulted, hv, latchRead_assertive, hf]
  exact exec_of_ready (i := .periodForKeyAssertive f k) hw hv ((State.ready_iff s).mpr ⟨hread, hs⟩)
    (congrArg (Option.map assertiveVerdict) hr)

end Exec

/-- The denominator and the period as R85 and R86 write them are the model's. -/
theorem eq_periodFor {c : Config} {f k d p : Nat} (hd : d = c.baseFx * c.expFrac.getD (k % 12) 0 * 2 ^ (k / 12))
    (hp : p = (2 * (f * c.scale * 2 ^ c.baseShift) + d) / (2 * d)) : p = periodFor c f k := by
  rw [periodFor, periodFromEntry_eq, entryFor, ← hd, hp]

/-! ### The FALLIBLE block (R90) -/

/-- At 1 MHz OUTPUT_OVERFLOW reaches up to key 10: it spreads to smaller keys, and key 11 does not have it. -/
theorem fallible_outputOverflow_iff (k : Nat) :
    convert (Config.reference .fallible) 1000000 k = some (.err .outputOverflow) ↔ k ≤ 10 := by
  have hw := reference_wf .fallible
  have hten : convert (Config.reference .fallible) 1000000 10 = some (.err .outputOverflow) := by decide
  have heleven : convert (Config.reference .fallible) 1000000 11 ≠ some (.err .outputOverflow) := by decide
  refine ⟨fun h => ?_, fun hk => convert_outputOverflow_of_le hw hk hten⟩
  by_contra hk
  exact heleven (convert_outputOverflow_of_le hw (Nat.lt_of_not_le hk) h)

/-- Settles O28: the outcome of `Convert`, check by check, is the record delivered. -/
theorem fallibleDeliversOneRecord : Obligations.FallibleDeliversOneRecord := by
  refine ⟨fun s f k d p hw hv hs hd hp => ?_, fallible_outputOverflow_iff, by decide, by decide⟩
  rw [exec_fallible hw hv hs (convert_eq hw _ _), ← eq_periodFor hd hp]
  split_ifs with hkey hproduct hperiod
  · exact congrArg _ (State.deliver_of_empty hs (absentRecord .keyRange))
  · exact congrArg _ (State.deliver_of_empty hs (absentRecord .productOverflow))
  · exact congrArg _ (State.deliver_of_empty hs (absentRecord .outputOverflow))
  · exact congrArg _ (State.deliver_of_empty hs (okRecord p))

/-! ### The ASSERTIVE block (R91, R124) -/

/-- Settles O29: operands that pass the three checks have their period as outcome, and it is delivered. -/
theorem assertiveDeliversThePeriod : Obligations.AssertiveDeliversThePeriod := by
  intro s f k d p hw hv hf hs hd hp hkey hproduct hperiod
  obtain rfl := eq_periodFor hd hp
  have hconv : convert s.cfg f.toNat k.toNat = some (.ok (periodFor s.cfg f.toNat k.toNat)) :=
    (convert_eq_ok_iff hw).mpr ⟨hkey, hproduct, hperiod, rfl⟩
  rw [exec_assertive hw hv hf hs hconv]
  exact congrArg _ (State.deliver_of_empty hs (okRecord _))

/-- Settles O30: the first check that fails gives the cause of the fault. -/
theorem assertiveFaultsOnAnError : Obligations.AssertiveFaultsOnAnError := by
  intro s f k d p hw hv hf hs hd hp hfail
  rw [exec_assertive hw hv hf hs (convert_eq hw _ _), ← eq_periodFor hd hp]
  split_ifs with hkey hproduct hperiod
  · exact congrArg _ (State.raiseFault_of_assertive hv hs .keyRange)
  · exact congrArg _ (State.raiseFault_of_assertive hv hs .productOverflow)
  · exact congrArg _ (State.raiseFault_of_assertive hv hs .outputOverflow)
  · exact absurd hfail (by simp only [hkey, hproduct, hperiod, or_self, not_false_eq_true])

end Sys2Proof.Machine
end

section
/-! PROOF. The statement about the accuracy at 1 MHz (conflict C3, spec/95_test_vectors.md L1.7). -/

namespace Sys2Proof.Machine

/-- The twelfth power of `10^6 * 2^(69/12)`, a whole number. -/
def clockPower : Nat := 1000000 ^ 12 * 2 ^ 69

/-- The twelfth power of `p * 440 * 2^(k/12)`. The implied frequency `10^6/p` is to the ideal one of key `k`,
`440 * 2^((k - 69)/12)`, as the root of `clockPower` is to the root of this. -/
def idealPower (p k : Nat) : Nat := (p * 440) ^ 12 * 2 ^ k

/-- The `m`-th powers of the two are within a factor of 2: the two frequencies are within `100/m` cents. -/
def withinRoot (m p k : Nat) : Bool :=
  decide (clockPower ^ m ≤ 2 * idealPower p k ^ m) && decide (idealPower p k ^ m ≤ 2 * clockPower ^ m)

/-- Taking `n`-th roots: `m * n`-th powers within a factor of `2^n` are `m`-th powers within a factor of 2. -/
theorem pow_mul_le_two_pow_mul_iff {n : Nat} (hn : n ≠ 0) (a b m : Nat) :
    a ^ (m * n) ≤ 2 ^ n * b ^ (m * n) ↔ a ^ m ≤ 2 * b ^ m := by
  rw [pow_mul, pow_mul, ← mul_pow, Nat.pow_le_pow_iff_left hn]

/-- A band of `n` cents, `n` a divisor of 100, needs the `100/n`-th powers only: of the 1200th powers the factors 12 and
`n` drop out. -/
theorem withinRoot_iff {m n : Nat} (hmn : m * n = 100) (p k : Nat) :
    withinRoot m p k = true ↔
      1000000 ^ 1200 * 2 ^ 6900 ≤ 2 ^ n * ((p * 440) ^ 1200 * 2 ^ (100 * k)) ∧
      (p * 440) ^ 1200 * 2 ^ (100 * k) ≤ 2 ^ n * (1000000 ^ 1200 * 2 ^ 6900) := by
  have hn : n ≠ 0 := by rintro rfl; omega
  have hclock : (1000000 ^ 1200 * 2 ^ 6900 : Nat) = clockPower ^ (m * n) := by
    rw [clockPower, hmn, mul_pow, ← pow_mul, ← pow_mul]
  have hideal : (p * 440) ^ 1200 * 2 ^ (100 * k) = idealPower p k ^ (m * n) := by
    rw [idealPower, hmn, mul_pow (_ ^ 12), ← pow_mul, ← pow_mul, Nat.mul_comm k]
  rw [hclock, hideal, pow_mul_le_two_pow_mul_iff hn, pow_mul_le_two_pow_mul_iff hn, withinRoot, Bool.and_eq_true,
    decide_eq_true_eq, decide_eq_true_eq]

/-- From key 11 on the period at 1 MHz fits 16 bits, because that of key 11 does. -/
theorem fallible_convert_oneMegahertz {k : Nat} (hlow : 11 ≤ k) (hhigh : k ≤ 127) :
    convert (Config.reference .fallible) 1000000 k =
      some (.ok (periodFor (Config.reference .fallible) 1000000 k)) := by
  have hw := reference_wf .fallible
  have heleven : periodFor (Config.reference .fallible) 1000000 11 ≤ 2 ^ 16 - 1 := by decide
  exact (convert_eq_ok_iff hw).mpr ⟨hhigh, by decide, (periodFor_mono hw le_rfl hlow).trans heleven, rfl⟩

/-- The 116 keys, evaluated: all within 10 cents, all but eight within 5. -/
theorem oneMegahertz_bands :
    ∀ k ≤ 127, 12 ≤ k →
      withinRoot 10 (periodFor (Config.reference .fallible) 1000000 k) k = true ∧
      (withinRoot 20 (periodFor (Config.reference .fallible) 1000000 k) k = true ↔
        k ∉ [116, 119, 120, 122, 123, 125, 126, 127]) := by
  decide

/-- Settles O26: the bands in 10th and 20th powers of the twelfth powers, which are evaluated for every key. -/
theorem centBandAtOneMegahertz : Obligations.CentBandAtOneMegahertz := by
  intro k hk
  have hrange : 12 ≤ k ∧ k ≤ 127 := by
    obtain ⟨i, hi, rfl⟩ := List.mem_map.mp hk
    rw [List.mem_range] at hi
    omega
  obtain ⟨hlow, hhigh⟩ := hrange
  obtain ⟨hten, hfive⟩ := oneMegahertz_bands k hhigh hlow
  refine ⟨_, fallible_convert_oneMegahertz (by omega) hhigh, ?_, ?_⟩
  · exact (withinRoot_iff (by decide) _ _).mp hten
  · exact (withinRoot_iff (by decide) _ _).symm.trans hfive

end Sys2Proof.Machine
end

section
/-! PROOF. The statements about the errors of spec/60_exceptions.md: the causes and their priority (R121, R122), the
absent result of a FALLIBLE block (R123), the fault of an ASSERTIVE one and the reset that ends it (R124 to R126), and
the order in which the arbiter offers requests (R131). -/

namespace Sys2Proof.Machine

/-! ### The causes -/

/-- Settles O16: `Convert` is its three checks in the order of R122, and each clause says which one decides. -/
theorem firstFailingCheckDecides : Obligations.FirstFailingCheckDecides := by
  refine ⟨⟨rfl, rfl, rfl, rfl⟩, fun c f k hw => ?_⟩
  rw [convert_eq hw, unguardedPeriod_eq hw]
  refine ⟨fun hkey => ?_, fun hkey hproduct => ?_, fun hkey hproduct p hp => ?_⟩
  · rw [if_pos hkey]
  · rw [if_neg (Nat.not_lt.mpr hkey), if_pos hproduct]
  · rw [if_neg (Nat.not_lt.mpr hkey), if_neg (Nat.not_lt.mpr hproduct), Option.some.inj hp]

/-- Settles O31: the error is the record of an absent result, and delivering a record empties the slot and writes
neither latch. -/
theorem fallibleErrorLeavesNoTrace : Obligations.FallibleErrorLeavesNoTrace := by
  intro s f k c hw hv hs hconv
  have hready : (s.deliver (absentRecord c)).ready = true :=
    (State.ready_iff _).mpr ⟨State.readFaulted_of_fallible hv, rfl⟩
  exact ⟨_, exec_fallible hw hv hs hconv, rfl, rfl, rfl, rfl, hready, rfl⟩

/-! ### A request the block cannot accept -/

theorem State.not_ready_iff (s : State) : s.ready = false ↔ s.readFaulted = 1 ∨ s.slot ≠ .empty := by
  rw [← Bool.not_eq_true, State.ready_iff, not_and_or, ← ne_eq, bit_ne_zero]

/-- An instruction of the block's own contract is held where the block is not ready (R125, R29). -/
theorem exec_of_not_ready {i : Instr} {s : State} (hw : s.cfg.wf = true) (hv : s.cfg.variant = i.variant)
    (hr : s.ready = false) : exec i s = .next s := by
  simp [exec_eq_transact, transact, hw, hv, hr]

/-- Settles O32: a block that is faulted, or has a request in flight, is not ready. -/
theorem unacceptedRequestIsHeld : Obligations.UnacceptedRequestIsHeld := by
  intro i s hw hi hheld
  exact exec_of_not_ready hw ((Laws.Operands.wf_iff i _).mp hi) ((State.not_ready_iff s).mpr hheld)

/-- With no request waiting the block idles (R134). -/
theorem offerRequest_of_nil {s : State} (h : s.requests = []) : offerRequest s = .next s := by
  rw [offerRequest, h]

/-- Settles O36: the offer leaves the state that has taken the event as it is, where the block is not ready and where no
request waits. -/
theorem waitingRequestWaitsOn : Obligations.WaitingRequestWaitsOn := by
  intro s hw hev hwaits
  rw [step_of_wf hw, hev, handleEvent_request]
  obtain hf | hs | hq := hwaits
  · exact offerRequest_of_not_ready (s := s.takeEvent) ((State.not_ready_iff s).mpr (.inl hf))
  · exact offerRequest_of_not_ready (s := s.takeEvent) ((State.not_ready_iff s).mpr (.inr hs))
  · exact offerRequest_of_nil (s := s.takeEvent) hq

/-! ### A faulted block and its reset -/

/-- The events are no resets, and the request event that stands for an empty list is none either. -/
theorem noReset_nextEvent {s : State} (h : ∀ e ∈ s.env, noReset e) : noReset s.nextEvent := by
  cases henv : s.env with
  | nil => rw [State.nextEvent_of_nil henv]; trivial
  | cons e es =>
    rw [State.nextEvent_of_cons henv]
    exact h e (henv ▸ List.mem_cons_self)

/-- A faulted block does nothing at an event that is no reset (R125). -/
theorem step_of_faulted {s : State} (hw : s.cfg.wf = true) (hf : s.readFaulted = 1) (hno : noReset s.nextEvent) :
    step s = .next s.takeEvent := by
  rw [step_of_wf hw]
  cases hev : s.nextEvent with
  | request => exact offerRequest_of_not_ready (s := s.takeEvent) ((State.not_ready_iff s).mpr (.inl hf))
  | reset => rw [hev] at hno; exact hno.elim
  | edge p => rw [hev] at hno; exact clockEdge_of_faulted (s := s.takeEvent) hno hf

/-- A run of a faulted block without a reset takes its events and does nothing else (R125). -/
theorem runSteps_of_faulted (n : Nat) {s : State} (hw : s.cfg.wf = true) (hf : s.readFaulted = 1)
    (hno : ∀ e ∈ s.env, noReset e) :
    runSteps n s = .next { s with env := s.env.drop n, freeCount := s.freeCount + n } := by
  induction n generalizing s with
  | zero => rfl
  | succ n ih =>
    have hno' : ∀ e ∈ s.takeEvent.env, noReset e := fun e he => hno e (List.mem_of_mem_tail he)
    rw [runSteps_succ n (step_of_faulted hw hf (noReset_nextEvent hno)), ih (s := s.takeEvent) hw hf hno']
    simp [State.takeEvent, State.tick, Nat.add_assoc, Nat.add_comm 1]

/-- While `FAULTED` reads 1 no response is presented (R125). -/
theorem rspValid_of_faulted {s : State} (hf : s.readFaulted = 1) (rst : Bit) : rspValid rst s = 0 := by
  refine bit_ne_one.mp fun hvalid => ?_
  obtain ⟨-, hf', -⟩ := rspValid_iff.mp hvalid
  exact bit_zero_ne_one hf' hf

/-- Settles O40: the run only takes events from the environment, which none of the fields named here read. -/
theorem faultLastsUntilReset : Obligations.FaultLastsUntilReset := by
  intro n s hw hf hno
  exact ⟨_, runSteps_of_faulted n hw hf hno, hf, rfl, rfl, rfl, rfl, rspValid_of_faulted hf⟩

/-- Settles O38: an edge with `rst = 1` is a reset whatever the request in flight would come to. -/
theorem resetWinsOverFault : Obligations.ResetWinsOverFault := by
  intro s t p p' _ _ _ _ hrst
  exact ⟨s.resetEdge, clockEdge_of_reset s hrst, State.resetEdge_readFaulted s, State.resetEdge_readFaultCause s, rfl,
    rfl⟩

/-- A reset makes any block ready (R141). -/
theorem State.resetEdge_ready (s : State) : s.resetEdge.ready = true :=
  (State.ready_iff _).mpr ⟨State.resetEdge_readFaulted s, rfl⟩

/-- The latches of a block that is not faulted read 0, the cause by the invariant (R28). -/
theorem State.Inv.faultState_eq_zero {s : State} (h : s.Inv) (hf : s.readFaulted = 0) : s.faultState = (0, 0) :=
  Prod.ext hf (h.causeAgrees.mpr hf)

@[simp] theorem State.resetEdge_faultState (s : State) : s.resetEdge.faultState = (0, 0) :=
  Prod.ext (State.resetEdge_readFaulted s) (State.resetEdge_readFaultCause s)

/-- The latches after a fault do not depend on what they held. -/
theorem State.raiseFault_faultState (c : Cause) (s : State) :
    (s.raiseFault c).faultState = (latchRead s.cfg.variant 1, latchRead s.cfg.variant (causeCode c)) :=
  Prod.ext (State.raiseFault_readFaulted c s) (State.raiseFault_readFaultCause c s)

/-- Settles O41: the block is ready both times and its configuration is the same, so the request concludes with the same
verdict. -/
theorem retryAfterResetChangesNothing : Obligations.RetryAfterResetChangesNothing := by
  intro i s t hinv hf hs hexec
  obtain ⟨hw, hv, ⟨hheld, -⟩ | ⟨-, v, hverdict, rfl⟩⟩ := exec_next hexec
  · cases hheld.symm.trans ((State.ready_iff s).mpr ⟨hf, hs⟩)
  · have hcfg : (s.conclude v).resetEdge.cfg = s.cfg := State.conclude_cfg s v
    have hagain : exec i (s.conclude v).resetEdge = .next ((s.conclude v).resetEdge.conclude v) :=
      exec_of_ready (hcfg ▸ hw) (hcfg ▸ hv) (State.resetEdge_ready _) (hcfg ▸ hverdict)
    cases v with
    | response r =>
      refine ⟨_, [r], hagain, rfl, rfl, ?_⟩
      calc (s.deliver r).resetEdge.faultState
        _ = (0, 0) := State.resetEdge_faultState _
        _ = s.faultState := (hinv.faultState_eq_zero hf).symm
    | fault c =>
      refine ⟨_, [], hagain, (List.append_nil _).symm, (List.append_nil _).symm, ?_⟩
      simp only [State.conclude_fault, State.raiseFault_faultState, State.resetEdge_cfg, State.raiseFault_cfg]

/-! ### A queue of requests -/

/-- With no event to come, taking the request event changes the count of steps only. -/
theorem State.takeEvent_of_nil {s : State} (h : s.env = []) :
    s.takeEvent = { s with freeCount := s.freeCount + 1 } := by
  rw [State.takeEvent, State.tick, h, List.tail_nil, ← h]

/-- A request that comes to a response, at the head of the queue of a block of either contract (R92). -/
theorem step_of_answered {s : State} {q : ReqWord} {rest : List ReqWord} {r : Response} (hw : s.cfg.wf = true)
    (hf : s.readFaulted = 0) (hs : s.slot = .empty) (henv : s.env = []) (hq : s.requests = q :: rest)
    (hr : instrVerdict s.cfg (decode s.cfg.variant q) = some (.response r)) :
    step s = .next { s with
      requests := rest, delivered := s.delivered ++ [r], freeCount := s.freeCount + 1 } := by
  rw [step_of_request hw (State.nextEvent_of_nil henv) ((State.ready_iff s).mpr ⟨hf, hs⟩) hq hr,
    State.takeEvent_of_nil henv]
  exact congrArg Host.Outcome.next (State.deliver_of_empty (s := { s with requests := rest, freeCount := _ }) hs r)

/-- Requests that come to responses are answered in the order of the queue, one a step, by a block of either contract
(R65.5). -/
theorem runSteps_of_answered {qs rest : List ReqWord} {rs : List Response} {s : State} (hw : s.cfg.wf = true)
    (hf : s.readFaulted = 0) (hs : s.slot = .empty) (henv : s.env = []) (hq : s.requests = qs ++ rest)
    (hrs : List.Forall₂ (fun q r => instrVerdict s.cfg (decode s.cfg.variant q) = some (.response r)) qs rs) :
    runSteps qs.length s = .next { s with
      requests := rest, delivered := s.delivered ++ rs, freeCount := s.freeCount + qs.length } := by
  induction qs generalizing rs s with
  | nil =>
    cases hrs
    obtain rfl : s.requests = rest := hq
    simp
  | cons q qs ih =>
    cases hrs with
    | @cons _ r _ rs hr hrs =>
      have hq : s.requests = q :: (qs ++ rest) := hq
      rw [List.length_cons, runSteps_succ _ (step_of_answered hw hf hs henv hq hr),
        ih (s := { s with
          requests := qs ++ rest, delivered := s.delivered ++ [r], freeCount := s.freeCount + 1 })
          hw hf hs henv rfl hrs]
      simp [Nat.add_assoc, Nat.add_comm 1]

/-- A FALLIBLE block answers any queue with the answers of its words. -/
theorem runSteps_of_fallible_answer {answer : ReqWord → Response} {s : State} (hw : s.cfg.wf = true)
    (hv : s.cfg.variant = .fallible) (hs : s.slot = .empty) (henv : s.env = [])
    (hanswer : ∀ q, instrVerdict s.cfg (decode s.cfg.variant q) = some (.response (answer q))) (qs : List ReqWord) :
    runSteps qs.length { s with requests := qs } = .next { s with
      requests := [], delivered := s.delivered ++ qs.map answer, freeCount := s.freeCount + qs.length } := by
  refine runSteps_of_answered (s := { s with requests := qs }) hw (State.readFaulted_of_fallible hv) hs henv
    (List.append_nil qs).symm ?_
  rw [List.forall₂_map_right_iff, List.forall₂_same]
  exact fun q _ => hanswer q

/-- Settles O45: the answer of a word is its verdict, a function of the configuration and the word, so each queue
delivers the answers of its own words and the order of the words does not enter. -/
theorem arbiterOrderChangesNoResponse : Obligations.ArbiterOrderChangesNoResponse := by
  intro qs qs' s hperm hw hv hs henv
  choose answer hfallible using fun q : ReqWord => exists_fallible_response hw (freqField q) (keyField q)
  have hanswer : ∀ q, instrVerdict s.cfg (decode s.cfg.variant q) = some (.response (answer q)) := by
    rw [hv]
    exact hfallible
  exact ⟨answer, fun q _ => hanswer q, hperm.map answer, runSteps_of_fallible_answer hw hv hs henv hanswer qs,
    runSteps_of_fallible_answer hw hv hs henv hanswer qs'⟩

/-! ### A queue with an error in it -/

/-- The period of a request word's operands. -/
def wordPeriod (c : Config) (q : ReqWord) : Nat := periodFor c (freqField q).toNat (keyField q).toNat

/-- Operands that keep the requester's preconditions pass the three checks (R144). -/
theorem convert_of_wordMeetsPreconditions {c : Config} (hw : c.wf = true) {q : ReqWord}
    (h : wordMeetsPreconditions c q) :
    convert c (freqField q).toNat (keyField q).toNat = some (.ok (wordPeriod c q)) := by
  obtain ⟨hkey, hfreq, p, hp, hfits⟩ := h
  obtain rfl : wordPeriod c q = p := Option.some.inj ((unguardedPeriod_eq hw _ _).symm.trans hp)
  have hscale : 1 ≤ c.scale := ((Config.wf_iff_facts c).mp hw).scale_pos
  exact (convert_eq_ok_iff hw).mpr ⟨hkey, (product_le_iff_le_fMax hscale _).mpr hfreq, hfits, rfl⟩

/-- What a word comes to in an ASSERTIVE block (R91). -/
theorem instrVerdict_of_assertive {c : Config} (hv : c.variant = .assertive) {q : ReqWord} {r : Conversion}
    (h : convert c (freqField q).toNat (keyField q).toNat = some r) :
    instrVerdict c (decode c.variant q) = some (assertiveVerdict r) := by
  rw [hv]
  exact congrArg (Option.map assertiveVerdict) h

/-- A request in error, at the head of the queue of an ASSERTIVE block (R124). -/
theorem step_of_assertive_error {s : State} {q : ReqWord} {rest : List ReqWord} {c : Cause} (hw : s.cfg.wf = true)
    (hv : s.cfg.variant = .assertive) (hf : s.readFaulted = 0) (hs : s.slot = .empty) (henv : s.env = [])
    (hq : s.requests = q :: rest)
    (hconv : convert s.cfg (freqField q).toNat (keyField q).toNat = some (.err c)) :
    step s = .next { s with
      faulted := 1, faultCause := causeCode c, requests := rest, freeCount := s.freeCount + 1 } := by
  rw [step_of_request hw (State.nextEvent_of_nil henv) ((State.ready_iff s).mpr ⟨hf, hs⟩) hq
    (instrVerdict_of_assertive hv hconv), State.takeEvent_of_nil henv]
  exact congrArg Host.Outcome.next
    (State.raiseFault_of_assertive (s := { s with requests := rest, freeCount := _ }) hv hs c)

/-- A request in error halts an ASSERTIVE block: every later request waits, however many steps follow (R124, R125). -/
theorem runSteps_of_assertive_error (n : Nat) {s : State} {q : ReqWord} {rest : List ReqWord} {c : Cause}
    (hw : s.cfg.wf = true) (hv : s.cfg.variant = .assertive) (hf : s.readFaulted = 0) (hs : s.slot = .empty)
    (henv : s.env = []) (hq : s.requests = q :: rest)
    (hconv : convert s.cfg (freqField q).toNat (keyField q).toNat = some (.err c)) :
    runSteps (n + 1) s = .next { s with
      faulted := 1, faultCause := causeCode c, requests := rest, freeCount := s.freeCount + (n + 1) } := by
  have hheld := runSteps_of_faulted n (s := { s with
    faulted := 1, faultCause := causeCode c, requests := rest, freeCount := s.freeCount + 1 })
    hw (congrArg (latchRead · 1) hv) (by simp [henv])
  rw [runSteps_succ n (step_of_assertive_error hw hv hf hs henv hq hconv), hheld]
  simp [henv, Nat.add_assoc, Nat.add_comm 1]

/-- Words that keep the requester's preconditions have a record of a result each. -/
theorem exists_results {c : Config} (hw : c.wf = true) {qs : List ReqWord}
    (h : ∀ q ∈ qs, wordMeetsPreconditions c q) :
    ∃ rs, List.Forall₂ (fun q r => ∃ p, r = okRecord p ∧
      convert c (freqField q).toNat (keyField q).toNat = some (.ok p)) qs rs := by
  refine ⟨qs.map fun q => okRecord (wordPeriod c q), ?_⟩
  rw [List.forall₂_map_right_iff, List.forall₂_same]
  exact fun q hq => ⟨wordPeriod c q, rfl, convert_of_wordMeetsPreconditions hw (h q hq)⟩

/-- Settles O46: the requests before the error are answered in order, and the run from there on is that of the request in
error. -/
theorem assertiveQueueStopsAtFirstError : Obligations.AssertiveQueueStopsAtFirstError := by
  intro good rest bad c s n hw hv hf hs henv hq hgood hbad
  have hread : s.readFaulted = 0 := by rw [State.readFaulted, hv, latchRead_assertive, hf]
  obtain ⟨rs, hrs⟩ := exists_results hw hgood
  have hanswers : List.Forall₂
      (fun q r => instrVerdict s.cfg (decode s.cfg.variant q) = some (.response r)) good rs :=
    hrs.imp fun q r ⟨p, hr, hconv⟩ => hr ▸ instrVerdict_of_assertive hv hconv
  have herror := runSteps_of_assertive_error n (s := { s with
    requests := bad :: rest, delivered := s.delivered ++ rs, freeCount := s.freeCount + good.length })
    hw hv hread hs henv rfl hbad
  refine ⟨rs, hrs, ?_⟩
  rw [Nat.add_assoc, Nat.add_comm 1 n, runSteps_add _ _ (runSteps_of_answered hw hread hs henv hq hanswers), herror]
  simp [Nat.add_assoc]

end Sys2Proof.Machine
end

section
/-! PROOF. The statements about reset and hazards (spec/70_reset_and_hazards.md): the ports during reset (R140), the
state that a reset leaves (R141, R142), what the requester's preconditions give (R144), a request kept at the ports
(R146) and a request in flight (R147). -/

namespace Sys2Proof.Machine

/-! ### Reset -/

/-- Settles O48: readiness as the port shows it, the two ports under `rst = 1`, and the edge that is a reset. -/
theorem readyAndResetAtThePorts : Obligations.ReadyAndResetAtThePorts := by
  refine ⟨fun _ _ => reqReady_iff, fun s => ⟨bit_ne_one.mp fun hready => ?_, bit_ne_one.mp fun hvalid => ?_⟩,
    fun s _ hrst => clockEdge_of_reset s hrst⟩
  · obtain ⟨-, -, hrst⟩ := reqReady_iff.mp hready
    exact bit_zero_ne_one hrst rfl
  · obtain ⟨hrst, -, -⟩ := rspValid_iff.mp hvalid
    exact bit_zero_ne_one hrst rfl

/-- With nothing in the slot `rsp_valid` is 0 (R65.3). -/
theorem rspValid_of_empty {s : State} (hs : s.slot = .empty) (rst : Bit) : rspValid rst s = 0 := by
  rw [rspValid, presented_of_empty hs]
  rfl

/-- Both ways to reset the block, the event and the edge with `rst = 1`, are the same step (R141). -/
theorem step_of_reset {s : State} (hw : s.cfg.wf = true)
    (h : s.nextEvent = .reset ∨ ∃ p, s.nextEvent = .edge p ∧ p.rst = 1) : step s = .next s.takeEvent.resetEdge := by
  rw [step_of_wf hw]
  obtain hev | ⟨p, hev, hrst⟩ := h
  · rw [hev, handleEvent_reset]
  · rw [hev, handleEvent_edge, clockEdge_of_reset _ hrst]

/-- Settles O37: the step is the reset of the state that has taken the event. -/
theorem resetFromAnyState : Obligations.ResetFromAnyState := by
  intro s hw hreset
  have hstep : step s = .next s.takeEvent.resetEdge := step_of_reset hw hreset
  refine ⟨hstep, fun t ht => ?_⟩
  obtain rfl : s.takeEvent.resetEdge = t := Host.Outcome.next.inj (hstep.symm.trans ht)
  exact ⟨State.resetEdge_faultState _, rspValid_of_empty rfl⟩

/-- Settles O39: a reset overwrites the three fields that power-up leaves unspecified. -/
theorem resetAfterPowerUp : Obligations.ResetAfterPowerUp :=
  fun c n hw => step_of_reset (s := { State.powerUp c n with env := [.reset] }) hw (.inl rfl)

/-- The state after reset has the invariant, in every build (R141). -/
theorem State.Inv.resetOf (c : Config) : (State.resetOf c).Inv where
  causeAgrees := by rw [State.resetOf_readFaultCause, State.resetOf_readFaulted]; exact iff_of_true rfl rfl
  faultedIdle := fun _ => rfl
  slotLegal := trivial
  deliveredLegal := by simp

/-- Settles O58: the invariant of every build's reset state, and the checks of the reference configuration. -/
theorem resetHasTheInvariant : Obligations.ResetHasTheInvariant :=
  ⟨State.Inv.resetOf, State.Inv.resetOf _, reference_wf _⟩

/-! ### The requests in sight of the block (R144) -/

@[simp] theorem State.conclude_requests (s : State) (v : Verdict) : (s.conclude v).requests = s.requests := by
  cases v <;> rfl

@[simp] theorem State.conclude_env (s : State) (v : Verdict) : (s.conclude v).env = s.env := by cases v <;> rfl

@[simp] theorem State.conclude_slot (s : State) (v : Verdict) : (s.conclude v).slot = .empty := by cases v <;> rfl

@[simp] theorem State.finish_requests (s : State) (v : Verdict) : (s.finish v).requests = s.requests := by
  cases v <;> rfl

theorem State.finish_slot_ne_waiting (s : State) (v : Verdict) (q : ReqWord) (left : Nat) :
    (s.finish v).slot ≠ .waiting q left := by
  cases v with
  | response r => exact nofun
  | fault c => exact nofun

theorem State.edge_mem_env {s : State} {p : PortIn} (h : s.nextEvent = .edge p) : Event.edge p ∈ s.env := by
  cases henv : s.env with
  | nil => cases (State.nextEvent_of_nil henv).symm.trans h
  | cons e es =>
    obtain rfl : e = .edge p := (State.nextEvent_of_cons henv).symm.trans h
    exact List.mem_cons_self

/-- An offer takes at most the request at the head of those waiting. -/
theorem OfferTo.requests_subset {s t : State} (h : OfferTo s t) : t.requests ⊆ s.requests := by
  cases h with
  | idle | held => exact List.Subset.refl _
  | run q rest v hq =>
    rw [State.conclude_requests, hq]
    exact List.subset_cons_self q rest

theorem OfferTo.env_eq {s t : State} (h : OfferTo s t) : t.env = s.env := by
  cases h with
  | idle | held => rfl
  | run q rest v => exact State.conclude_env _ v

/-- An offer puts nothing in flight. -/
theorem OfferTo.slot_of_waiting {s t : State} (h : OfferTo s t) {q : ReqWord} {left : Nat}
    (ht : t.slot = .waiting q left) : s.slot = .waiting q left := by
  cases h with
  | idle | held => exact ht
  | run q' rest v => cases (State.conclude_slot _ v).symm.trans ht

theorem EdgeTo.requests_eq {p : PortIn} {s t : State} (h : EdgeTo p s t) : t.requests = s.requests := by
  cases h with
  | finish q left v => exact State.finish_requests s v
  | _ => rfl

/-- A request in flight after an edge was in flight before it, or was at the ports. -/
theorem EdgeTo.origin_of_waiting {p : PortIn} {s t : State} (h : EdgeTo p s t) {q : ReqWord} {left : Nat}
    (ht : t.slot = .waiting q left) :
    (∃ left', s.slot = .waiting q left') ∨ p.reqValid = 1 ∧ portWord p = q := by
  cases h with
  | reset => cases ht
  | frozen | idle | hold => exact .inl ⟨left, ht⟩
  | accept _ _ _ hvalid => cases ht; exact .inr ⟨hvalid, rfl⟩
  | wait q' left' _ _ hs => cases ht; exact .inl ⟨left', hs⟩
  | finish q' left' v => exact (State.finish_slot_ne_waiting s v q left ht).elim
  | deliver => cases ht

/-- A step adds no request to those waiting. -/
theorem StepTo.requests_subset {s t : State} (h : StepTo s t) : t.requests ⊆ s.requests := by
  cases h with
  | request _ hoffer => exact hoffer.requests_subset
  | reset => exact List.Subset.refl _
  | edge p _ hedge =>
    rw [hedge.requests_eq]
    exact List.Subset.refl _

/-- A step takes one event from the environment. -/
theorem StepTo.env_eq {s t : State} (h : StepTo s t) : t.env = s.env.tail := by
  cases h with
  | request _ hoffer => exact hoffer.env_eq
  | reset => rfl
  | edge p _ hedge => exact hedge.env_eq

/-- A request in flight after a step was in flight before it, or at the ports at the edge taken. -/
theorem StepTo.origin_of_waiting {s t : State} (h : StepTo s t) {q : ReqWord} {left : Nat}
    (ht : t.slot = .waiting q left) :
    (∃ left', s.slot = .waiting q left') ∨ ∃ p, Event.edge p ∈ s.env ∧ p.reqValid = 1 ∧ portWord p = q := by
  cases h with
  | request _ hoffer => exact .inl ⟨left, hoffer.slot_of_waiting ht⟩
  | reset => cases ht
  | edge p hev hedge => exact (hedge.origin_of_waiting ht).imp_right fun hp => ⟨p, State.edge_mem_env hev, hp⟩

/-- Nothing comes in sight of the block that was not in sight before. -/
theorem State.requestersKeepPreconditions.stepTo {s t : State} (h : s.requestersKeepPreconditions)
    (hcfg : t.cfg = s.cfg) (hto : StepTo s t) : t.requestersKeepPreconditions := by
  obtain ⟨hqueue, hflight, hports⟩ := h
  rw [State.requestersKeepPreconditions, hcfg, hto.env_eq]
  refine ⟨fun q hq => hqueue q (hto.requests_subset hq), fun q left ht => ?_,
    fun p hp => hports p (List.mem_of_mem_tail hp)⟩
  obtain ⟨left', hs⟩ | ⟨p, hp, hvalid, rfl⟩ := hto.origin_of_waiting ht
  · exact hflight q left' hs
  · exact hports p hp hvalid

/-- Settles O47: only a request in error sets `FAULTED`, and a request that keeps its preconditions converts. -/
theorem preconditionsKeepTheBlockRunning : Obligations.PreconditionsKeepTheBlockRunning := by
  intro s t hf hkeep hstep
  obtain ⟨hw, hto⟩ := step_next hstep
  refine ⟨bit_ne_one.mp fun ht => ?_, hkeep.stepTo (configurationNeverChanges s t hstep) hto⟩
  obtain ⟨-, q, c, hsight, herror, -⟩ := (faultLatchIsSetAndClearedOnlySo s t hstep).1 hf ht
  obtain ⟨hqueue, hflight, -⟩ := hkeep
  have hq : wordMeetsPreconditions s.cfg q := by
    obtain hhead | ⟨left, hs⟩ := hsight
    · exact hqueue q (List.mem_of_head? hhead)
    · exact hflight q left hs
  cases (convert_of_wordMeetsPreconditions hw hq).symm.trans herror

/-! ### A request kept at the ports (R146) -/

/-- What a requester keeps to at one edge that does not accept its request, it shows again at the next. -/
theorem keepsRequest.portWord_eq {p p' : PortIn} {s : State} (h : keepsRequest p p' s) (hvalid : p.reqValid = 1)
    (hno : ¬ acceptsAt p s) : p'.reqValid = 1 ∧ portWord p' = portWord p := by
  obtain ⟨hvalid', hfreq, hkey⟩ := h hvalid hno
  exact ⟨hvalid', by rw [portWord, hfreq, hkey, portWord]⟩

/-- A request kept through edges that accept nothing is the one at the ports after them. `answer` is the edge's answer,
where it has one. -/
theorem portWord_eq_of_kept {answer : State → PortIn → Option State}
    (hanswer : ∀ s p t, answer s p = some t → clockEdge p s = .next t) {ps : List PortIn} {first last : PortIn}
    {s t : State} (hkeep : keepsRequests s (first :: ps ++ [last])) (hno : acceptsNowhere s (first :: ps))
    (hvalid : first.reqValid = 1) (hrun : (first :: ps).foldlM answer s = some t) :
    portWord last = portWord first := by
  induction ps generalizing first s with
  | nil => exact (hkeep.1.portWord_eq hvalid hno.1).2
  | cons p ps ih =>
    obtain ⟨hkeepFirst, hkeepRest⟩ := hkeep
    obtain ⟨hnoFirst, hnoRest⟩ := hno
    obtain ⟨u, hu, hrunRest⟩ := Option.bind_eq_some_iff.mp hrun
    obtain ⟨hvalid', hword⟩ := hkeepFirst.portWord_eq hvalid hnoFirst
    have hedge : clockEdge first s = .next u := hanswer s first u hu
    exact (ih (hkeepRest u hedge) (hnoRest u hedge) hvalid' hrunRest).trans hword

/-- Settles O52: the edge that accepts takes the word at its own ports, which is still the word raised. -/
theorem heldRequestIsAcceptedUnchanged : Obligations.HeldRequestIsAcceptedUnchanged := by
  intro ps first last s t u hkeep hno hvalid hrun hacc hlast
  have hword : portWord last = portWord first := by
    refine portWord_eq_of_kept (fun s p t h => ?_) hkeep hno hvalid hrun
    split at h
    next hedge => rw [hedge, Option.some.inj h]
    next => cases h
  obtain rfl : t.await (portWord last) t.cfg.latency = u :=
    Host.Outcome.next.inj ((clockEdge_of_accepts hacc).symm.trans hlast)
  rw [State.await_slot, hword]

/-! ### A request in flight (R147) -/

/-- Settles O50: the edges left to the request end its work with its verdict, and a fault comes from an ASSERTIVE block,
which has the latches. -/
theorem requestInFlightFinishes : Obligations.RequestInFlightFinishes := by
  intro ps es s q hw hf hlen hs henv hrst
  obtain ⟨p, ps, rfl⟩ := List.exists_cons_of_length_pos hlen
  obtain ⟨v, hv⟩ := exists_instrVerdict hw (decode s.cfg.variant q)
  have hflight : s.await q (ps.length + 1) = s := by rw [State.await, ← List.length_cons, ← hs]
  have hrun := runSteps_await p ps hw hf henv hrst hv
  rw [hflight] at hrun
  refine ⟨_, hrun, State.finish_env _ v, State.finish_delivered _ v, State.finish_requests _ v, ?_⟩
  cases v with
  | response r => exact .inl ⟨r, hv, hf, rfl⟩
  | fault c =>
    have hassertive : s.cfg.variant = .assertive := (assertive_of_fault hv).1
    refine .inr ⟨c, hv, ?_, ?_, rfl⟩
    · exact (State.raiseFault_readFaulted c _).trans (congrArg (latchRead · 1) hassertive)
    · exact (State.raiseFault_readFaultCause c _).trans (congrArg (latchRead · (causeCode c)) hassertive)

end Sys2Proof.Machine
end

section
/-! PROOF. The statement about the source's own examples (spec/95_test_vectors.md section 1, conflicts C1 and C2). -/

namespace Sys2Proof.Machine

/-! ### What the contract changes (R9) -/

/-- The contract is no factor of the reference period: it sets `OUT_W` only. -/
theorem reference_periodFor_variant (v : Variant) (f k : Nat) :
    periodFor (Config.reference v) f k = periodFor (Config.reference .fallible) f k := rfl

theorem literal_periodFor_variant (v : Variant) (f k : Nat) :
    periodFor (Config.literal v) f k = periodFor (Config.literal .fallible) f k := rfl

/-- What fits the FALLIBLE port fits the port of either contract. -/
theorem lt_two_pow_referenceOutW (v : Variant) {p : Nat} (hp : p < 2 ^ 16) : p < 2 ^ referenceOutW v := by
  have hwidth : 16 ≤ referenceOutW v := by
    cases v with
    | fallible => decide
    | assertive => decide
  exact hp.trans_le (Nat.pow_le_pow_right (by decide) hwidth)

/-! ### The outcomes of a vector -/

/-- With a valid key and a frequency up to `F_MAX`, a period that fits `OUT_W` is the outcome. -/
theorem convert_of_periodFor_eq {c : Config} (hw : c.wf = true) {f k p : Nat} (hk : k ≤ 127) (hf : f ≤ c.fMax)
    (hperiod : periodFor c f k = p) (hp : p < 2 ^ c.outW) : convert c f k = some (.ok p) :=
  (convert_eq_ok_iff hw).mpr
    ⟨hk, (product_le_iff_le_fMax ((Config.wf_iff_facts c).mp hw).scale_pos f).mpr hf,
      hperiod.trans_le (Nat.le_sub_one_of_lt hp), hperiod⟩

/-- In the reference build of either contract, a period of at most 16 bits is the outcome. -/
theorem reference_convert_of_periodFor_eq (v : Variant) {f k p : Nat} (hk : k ≤ 127) (hf : f ≤ 4194303)
    (hperiod : periodFor (Config.reference .fallible) f k = p) (hp : p < 2 ^ 16) :
    convert (Config.reference v) f k = some (.ok p) :=
  convert_of_periodFor_eq (reference_wf v) hk (hf.trans_eq (reference_fMax v).symm)
    ((reference_periodFor_variant v f k).trans hperiod) (lt_two_pow_referenceOutW v hp)

/-- L1.1b: `BASE_FX` is in the denominator, so the literal configuration gives the reference key another period. It has
the ceiling `F_MAX` and the port of the reference build. -/
theorem literal_convert_referenceKey (v : Variant) : convert (Config.literal v) 1000000 69 = some (.ok 18583) := by
  have hceiling : 1000000 ≤ (Config.literal v).fMax :=
    (by decide : 1000000 ≤ 4194303).trans_eq (reference_fMax v).symm
  have hperiod : periodFor (Config.literal .fallible) 1000000 69 = 18583 := by decide
  exact convert_of_periodFor_eq (reference_literal_wf v).2 (by decide) hceiling
    ((literal_periodFor_variant v _ _).trans hperiod) (lt_two_pow_referenceOutW v (by decide))

/-- L1.3: the first key beyond the last one. -/
theorem reference_convert_firstBadKey (v : Variant) :
    convert (Config.reference v) 1000000 128 = some (.err .keyRange) := by
  obtain ⟨-, hchecks⟩ := firstFailingCheckDecides
  obtain ⟨hkeyRange, -, -⟩ := hchecks (Config.reference v) 1000000 128 (reference_wf v)
  exact hkeyRange (by decide)

/-- L1.4: the first frequency above `F_MAX`. -/
theorem reference_convert_aboveFMax (v : Variant) :
    convert (Config.reference v) 4194304 127 = some (.err .productOverflow) := by
  obtain ⟨hceiling, -⟩ := safeCeilingIsExact
  refine (hceiling _ (reference_wf v) 4194304 127 (by decide)).mpr ?_
  rw [reference_fMax]
  decide

/-- L1.2: the period of key 0 at 1 MHz, which needs 17 bits, fits the port of an ASSERTIVE block (conflict C2). -/
theorem assertive_convert_lowestKey : convert (Config.reference .assertive) 1000000 0 = some (.ok 122312) := by
  have hceiling : 1000000 ≤ (Config.reference .assertive).fMax := by rw [reference_fMax]; decide
  have hperiod : periodFor (Config.reference .fallible) 1000000 0 = 122312 := by decide
  exact convert_of_periodFor_eq (reference_wf .assertive) (by decide) hceiling
    ((reference_periodFor_variant .assertive _ _).trans hperiod) (by decide)

/-- Settles O27: the periods of L1.1, L1.2 and L1.4 are evaluated once and fit the port of either contract, the two
errors are the first values past their limits, and key 0 at 1 MHz fits one of the two ports only. -/
theorem sourceVectors : Obligations.SourceVectors := by
  refine ⟨fun v => ⟨?_, ?_, reference_convert_firstBadKey v, reference_convert_aboveFMax v, ?_,
    literal_convert_referenceKey v⟩, (fallible_outputOverflow_iff 0).mpr (by decide), assertive_convert_lowestKey⟩
  · exact reference_convert_of_periodFor_eq v (by decide) (by decide) (by decide) (by decide)
  · exact reference_convert_of_periodFor_eq v (by decide) (by decide) (by decide) (by decide)
  · exact reference_convert_of_periodFor_eq v (by decide) (by decide) (by decide) (by decide)

end Sys2Proof.Machine
end
